-- ==== Sys2Proof/Word.lean ====
section
/-! DEFINITION. The word types of the RS08 core (spec 00_scope R7). -/

namespace Sys2Proof

/-- A byte: the width of A, X, PAGESEL and every memory access (00_scope R7). -/
abbrev Byte := BitVec 8

/-- A 14-bit address: PC, SPC and every physical address (00_scope R7). -/
abbrev Addr := BitVec 14

/-- A 16-bit item of the debug interface (47_bdc_commands R277). -/
abbrev Word16 := BitVec 16

end Sys2Proof
end

