-- ==== Sys2Proof/Config.lean ====
section
/-! DEFINITION. The values the spec leaves open and no proof may know (log 13, log 34). -/

namespace Sys2Proof.Config

/-- The n-th free byte: a value the spec calls unspecified (93_implementation_defined, treatment `any value`). Opaque: nothing
constrains it. State.freeCount is the argument, so that every draw is a value of its own (log 34). -/
opaque freeByte : Nat → Byte

/-- PREFETCH_DEPTH of 00_scope R8: how many program bytes after the current instruction the CPU may already have fetched when
a store takes effect (20_memory R86). OPEN in the spec, opaque here (log 13). -/
opaque prefetchDepth : Nat

end Sys2Proof.Config
end

