-- ==== Sys2Proof/Syntax.lean ====
section
/-! DEFINITION. The instruction syntax: one constructor for each of the 150 rows of spec/opcode_table.json: 64 native
instructions, 11 illegal opcodes, 54 pseudo instructions and 21 debug commands (spec INDEX.md, 30_encoding R110, R114, R120; 47_bdc_commands R278). -/

namespace Sys2Proof

/-- The instructions of the RS08 core, with the operands their encoding carries (30_encoding R101, R117): `n` a bit number, `dd` and `ss` direct addresses,
`a` a tiny or short address, `ii` an immediate, `rr` an offset, `ea` the 14 used bits of an extended address (R108). A command of the
debug host carries its host-to-target items (47_bdc_commands R277): `aaaa` an address field, `wd` a data byte, `wd16` and `wbkp` 16-bit data, `cc` the control byte. -/
inductive Instr where
  -- native instructions (30_encoding R110)
  | brset (n : BitVec 3) (dd : Byte) (rr : Byte)  -- BRSET n,opr8a,rel: 44_branch_loop R230
  | brclr (n : BitVec 3) (dd : Byte) (rr : Byte)  -- BRCLR n,opr8a,rel: 44_branch_loop R231
  | bset (n : BitVec 3) (dd : Byte)  -- BSET n,opr8a: 40_data_movement R148
  | bclr (n : BitVec 3) (dd : Byte)  -- BCLR n,opr8a: 40_data_movement R149
  | incTny (a : BitVec 4)  -- INC opr4a: 41_math R182
  | bra (rr : Byte)  -- BRA rel: 44_branch_loop R222
  | cbeqDir (dd : Byte) (rr : Byte)  -- CBEQ opr8a,rel: 44_branch_loop R233
  | bcc (rr : Byte)  -- BCC rel: 44_branch_loop R223
  | bcs (rr : Byte)  -- BCS rel: 44_branch_loop R224
  | bne (rr : Byte)  -- BNE rel: 44_branch_loop R225
  | beq (rr : Byte)  -- BEQ rel: 44_branch_loop R226
  | clc  -- CLC: 46_misc R262
  | sec  -- SEC: 46_misc R261
  | decDir (dd : Byte)  -- DEC opr8a: 41_math R184
  | dbnzDir (dd : Byte) (rr : Byte)  -- DBNZ opr8a,rel: 44_branch_loop R235
  | incDir (dd : Byte)  -- INC opr8a: 41_math R181
  | movImm (ii : Byte) (dd : Byte)  -- MOV #opr8i,opr8a: 40_data_movement R146
  | clrDir (dd : Byte)  -- CLR opr8a: 41_math R187
  | cbeqa (ii : Byte) (rr : Byte)  -- CBEQA #opr8i,rel: 44_branch_loop R234
  | sla  -- SLA: 45_subroutine R254
  | coma  -- COMA: 42_logical R207
  | lsra  -- LSRA: 43_shift_rotate R212
  | sha  -- SHA: 45_subroutine R253
  | rora  -- RORA: 43_shift_rotate R214
  | lsla  -- LSLA: 43_shift_rotate R211
  | rola  -- ROLA: 43_shift_rotate R213
  | deca  -- DECA: 41_math R186
  | dbnza (rr : Byte)  -- DBNZA rel: 44_branch_loop R237
  | inca  -- INCA: 41_math R183
  | movDir (ss : Byte) (dd : Byte)  -- MOV opr8a,opr8a: 40_data_movement R147
  | clra  -- CLRA: 41_math R189
  | decTny (a : BitVec 4)  -- DEC opr4a: 41_math R185
  | addTny (a : BitVec 4)  -- ADD opr4a: 41_math R175
  | subTny (a : BitVec 4)  -- SUB opr4a: 41_math R180
  | clrSrt (a : BitVec 5)  -- CLR opr5a: 41_math R188
  | subImm (ii : Byte)  -- SUB #opr8i: 41_math R178
  | cmpImm (ii : Byte)  -- CMP #opr8i: 41_math R190
  | sbcImm (ii : Byte)  -- SBC #opr8i: 41_math R176
  | andImm (ii : Byte)  -- AND #opr8i: 42_logical R201
  | ldaImm (ii : Byte)  -- LDA #opr8i: 40_data_movement R141
  | eorImm (ii : Byte)  -- EOR #opr8i: 42_logical R205
  | adcImm (ii : Byte)  -- ADC #opr8i: 41_math R171
  | oraImm (ii : Byte)  -- ORA #opr8i: 42_logical R203
  | addImm (ii : Byte)  -- ADD #opr8i: 41_math R173
  | nop  -- NOP: 46_misc R260
  | bsr (rr : Byte)  -- BSR rel: 45_subroutine R250
  | stop  -- STOP: 46_misc R265
  | wait  -- WAIT: 46_misc R264
  | subDir (dd : Byte)  -- SUB opr8a: 41_math R179
  | cmpDir (dd : Byte)  -- CMP opr8a: 41_math R191
  | sbcDir (dd : Byte)  -- SBC opr8a: 41_math R177
  | andDir (dd : Byte)  -- AND opr8a: 42_logical R202
  | ldaDir (dd : Byte)  -- LDA opr8a: 40_data_movement R142
  | staDir (dd : Byte)  -- STA opr8a: 40_data_movement R144
  | eorDir (dd : Byte)  -- EOR opr8a: 42_logical R206
  | adcDir (dd : Byte)  -- ADC opr8a: 41_math R172
  | oraDir (dd : Byte)  -- ORA opr8a: 42_logical R204
  | addDir (dd : Byte)  -- ADD opr8a: 41_math R174
  | jmp (ea : Addr)  -- JMP opr16a: 44_branch_loop R221
  | jsr (ea : Addr)  -- JSR opr16a: 45_subroutine R251
  | rts  -- RTS: 45_subroutine R252
  | bgnd  -- BGND: 46_misc R263
  | ldaSrt (a : BitVec 5)  -- LDA opr5a: 40_data_movement R143
  | staSrt (a : BitVec 5)  -- STA opr5a: 40_data_movement R145
  -- illegal opcodes (30_encoding R114)
  | illegal32  -- ILLEGAL $32: 60_exceptions R323
  | illegal33  -- ILLEGAL $33: 60_exceptions R323
  | illegal3D  -- ILLEGAL $3D: 60_exceptions R323
  | illegal40  -- ILLEGAL $40: 60_exceptions R323
  | illegal47  -- ILLEGAL $47: 60_exceptions R323
  | illegal4D  -- ILLEGAL $4D: 60_exceptions R323
  | illegalA3  -- ILLEGAL $A3: 60_exceptions R323
  | illegalA5  -- ILLEGAL $A5: 60_exceptions R323
  | illegalA7  -- ILLEGAL $A7: 60_exceptions R323
  | illegalB3  -- ILLEGAL $B3: 60_exceptions R323
  | illegalB5  -- ILLEGAL $B5: 60_exceptions R323
  -- pseudo instructions (30_encoding R120)
  | adcIx  -- ADC ,X / ADC D[X]: 41_math R192
  | adcX  -- ADC X: 41_math R192
  | sbcIx  -- SBC ,X / SBC D[X]: 41_math R192
  | sbcX  -- SBC X: 41_math R192
  | andIx  -- AND ,X / AND D[X]: 42_logical R208
  | andX  -- AND X: 42_logical R208
  | oraIx  -- ORA ,X / ORA D[X]: 42_logical R208
  | oraX  -- ORA X: 42_logical R208
  | eorIx  -- EOR ,X / EOR D[X]: 42_logical R208
  | eorX  -- EOR X: 42_logical R208
  | cmpIx  -- CMP ,X / CMP D[X]: 41_math R194
  | cmpX  -- CMP X / CMPX: 41_math R194
  | addIx  -- ADD ,X / ADD D[X]: 41_math R192
  | addX  -- ADD X / ADDX: 41_math R192
  | subIx  -- SUB ,X / SUB D[X]: 41_math R192
  | subX  -- SUB X: 41_math R192
  | incIx  -- INC ,X / INC D[X]: 41_math R193
  | incX  -- INCX: 41_math R193
  | decIx  -- DEC ,X / DEC D[X]: 41_math R193
  | decX  -- DECX / DEC X: 41_math R193
  | clrIx  -- CLR ,X / CLR D[X]: 41_math R193
  | clrX  -- CLRX: 41_math R193
  | asla  -- ASLA: 43_shift_rotate R215
  | bhs (rr : Byte)  -- BHS rel: 44_branch_loop R227
  | blo (rr : Byte)  -- BLO rel: 44_branch_loop R228
  | brn  -- BRN rel: 44_branch_loop R229
  | bsetIx (n : BitVec 3)  -- BSET n,D[X]: 40_data_movement R156
  | bsetX (n : BitVec 3)  -- BSET n,X: 40_data_movement R156
  | bclrIx (n : BitVec 3)  -- BCLR n,D[X]: 40_data_movement R156
  | bclrX (n : BitVec 3)  -- BCLR n,X: 40_data_movement R156
  | brsetIx (n : BitVec 3) (rr : Byte)  -- BRSET n,D[X],rel: 44_branch_loop R232
  | brsetX (n : BitVec 3) (rr : Byte)  -- BRSET n,X,rel: 44_branch_loop R232
  | brclrIx (n : BitVec 3) (rr : Byte)  -- BRCLR n,D[X],rel: 44_branch_loop R232
  | brclrX (n : BitVec 3) (rr : Byte)  -- BRCLR n,X,rel: 44_branch_loop R232
  | cbeqIx (rr : Byte)  -- CBEQ ,X,rel / CBEQ D[X],rel: 44_branch_loop R236
  | cbeqX (rr : Byte)  -- CBEQ X,rel / CBEQX X,rel: 44_branch_loop R236
  | dbnzIx (rr : Byte)  -- DBNZ ,X,rel / DBNZ D[X],rel: 44_branch_loop R238
  | dbnzX (rr : Byte)  -- DBNZX rel: 44_branch_loop R238
  | ldaIx  -- LDA ,X / LDA D[X]: 40_data_movement R154
  | staIx  -- STA ,X / STA D[X]: 40_data_movement R154
  | staX  -- STA X: 40_data_movement R154
  | tax  -- TAX: 40_data_movement R152
  | txa  -- TXA: 40_data_movement R153
  | ldxImm (ii : Byte)  -- LDX #opr8i: 40_data_movement R150
  | ldxDir (dd : Byte)  -- LDX opr8a: 40_data_movement R150
  | ldxIx  -- LDX ,X: 40_data_movement R150
  | stxDir (dd : Byte)  -- STX opr8a: 40_data_movement R151
  | movIxDir (dd : Byte)  -- MOV D[X],opr8a: 40_data_movement R155
  | movDirIx (ss : Byte)  -- MOV opr8a,D[X]: 40_data_movement R155
  | movImmIx (ii : Byte)  -- MOV #opr8i,D[X]: 40_data_movement R155
  | tstDir (dd : Byte)  -- TST opr8a: 41_math R196
  | tstIx  -- TST ,X / TST D[X]: 41_math R196
  | tstX  -- TSTX: 41_math R196
  | tsta  -- TSTA: 41_math R195
  -- debug commands (47_bdc_commands R278)
  | bdcReset  -- BDC_RESET: 47_bdc_commands R284
  | background  -- BACKGROUND: 47_bdc_commands R293
  | readStatus  -- READ_STATUS: 47_bdc_commands R285
  | writeControl (cc : Byte)  -- WRITE_CONTROL: 47_bdc_commands R286
  | readByte (aaaa : Word16)  -- READ_BYTE: 47_bdc_commands R287
  | readByteWs (aaaa : Word16)  -- READ_BYTE_WS: 47_bdc_commands R288
  | writeByte (aaaa : Word16) (wd : Byte)  -- WRITE_BYTE: 47_bdc_commands R289
  | writeByteWs (aaaa : Word16) (wd : Byte)  -- WRITE_BYTE_WS: 47_bdc_commands R290
  | readBkpt  -- READ_BKPT: 47_bdc_commands R291
  | writeBkpt (wbkp : Word16)  -- WRITE_BKPT: 47_bdc_commands R292
  | go  -- GO: 47_bdc_commands R308
  | trace1  -- TRACE1: 47_bdc_commands R309
  | readBlock (aaaa : Word16)  -- READ_BLOCK: 47_bdc_commands R310
  | writeBlock (aaaa : Word16) (wd : Byte)  -- WRITE_BLOCK: 47_bdc_commands R311
  | readA  -- READ_A: 47_bdc_commands R312
  | writeA (wd : Byte)  -- WRITE_A: 47_bdc_commands R313
  | readCcrPc  -- READ_CCR_PC: 47_bdc_commands R314
  | writeCcrPc (wd16 : Word16)  -- WRITE_CCR_PC: 47_bdc_commands R315
  | readSpc  -- READ_SPC: 47_bdc_commands R316
  | writeSpc (wd16 : Word16)  -- WRITE_SPC: 47_bdc_commands R317
  | sync  -- SYNC: 47_bdc_commands R283
deriving DecidableEq, Repr

end Sys2Proof
end

