-- ==== Sys2Proof/WellFormed.lean ====
section
/-! DEFINITION. Well-formed instructions: the ONE form by which the decoder names each word. The operand types already hold every width of
30_encoding R101 (a bit number is 3 bits, a tiny address 4, a short address 5, an extended address 14), so what is left to check is the double naming of
30_encoding R120: where the words of a native form are also a pseudo instruction's, the pseudo instruction is the well-formed form (log 2). -/

namespace Sys2Proof

/-- Address $0E, D[X] (10_state R33). -/
abbrev ixAddr : Byte := 0x0E#8

/-- Address $0F, the register X (10_state R34). -/
abbrev xAddr : Byte := 0x0F#8

/-- A direct address that no pseudo instruction names: neither D[X] nor X (30_encoding R109, R120). -/
def plainDir (dd : Byte) : Bool := dd != ixAddr && dd != xAddr

/-- A tiny address other than $0E and $0F (30_encoding R105, R120). -/
def plainTny (a : BitVec 4) : Bool := a != 0xE#4 && a != 0xF#4

/-- A short address other than $0E and $0F (30_encoding R106, R120). -/
def plainSrt (a : BitVec 5) : Bool := a != 0x0E#5 && a != 0x0F#5

/-- The form is the one the decoder names its words by (log 2). -/
def WellFormed : Instr → Bool
  | .brset _ dd _ | .brclr _ dd _ | .bset _ dd | .bclr _ dd => plainDir dd
  | .cbeqDir dd _ | .dbnzDir dd _ => plainDir dd
  | .adcDir dd | .sbcDir dd | .cmpDir dd | .andDir dd | .oraDir dd | .eorDir dd => plainDir dd
  | .incTny a | .decTny a | .addTny a | .subTny a => plainTny a
  | .clrSrt a | .ldaSrt a | .staSrt a => plainSrt a
  | .bra rr => rr != 0#8                                       -- 30 00 is BRN (R115)
  | .oraImm ii => ii != 0#8                                    -- AA 00 is TSTA (41_math R195)
  | .movImm _ dd => plainDir dd                                -- LDX #ii and MOV #ii,D[X]
  | .movDir ss dd => plainDir ss && plainDir dd && ss != dd    -- LDX, STX, MOV with D[X], TST
  | .ldxDir dd => plainDir dd                                  -- 4E 0E 0F is LDX ,X and 4E 0F 0F is TSTX
  | .stxDir dd => dd != xAddr                                  -- 4E 0F 0F is TSTX
  | .movIxDir dd => plainDir dd                                -- 4E 0E 0E is TST ,X and 4E 0E 0F is LDX ,X
  | .movDirIx ss => plainDir ss                                -- 4E 0E 0E is TST ,X and 4E 0F 0E is STX $0E
  | .tstDir dd => plainDir dd                                  -- 4E 0E 0E is TST ,X and 4E 0F 0F is TSTX
  | .asla | .bhs _ | .blo _ | .staX => false                   -- the words of LSLA, BCC, BCS and TAX
  | _ => true

end Sys2Proof
end

