-- ==== Sys2Proof/Decode.lean ====
section
/-! DEFINITION. The decoder and, after it, the encoder (spec 30_encoding; for the debug commands 47_bdc_commands R277, R278).

decodeNative is the CPU's own decoder, written from the opcode map R110 alone; named gives words that Table 2-12 also lists as a pseudo
instruction that row's name (R120; the meaning is the same, see exec); decode puts the two together over bytes. -/

namespace Sys2Proof

/-- Bits 7:4 of the opcode: the row of the opcode map (30_encoding R110). -/
def opRow (op : Byte) : BitVec 4 := op.extractLsb' 4 4

/-- Bits 3:0 of the opcode: the tiny address (30_encoding R105). -/
def tnyField (op : Byte) : BitVec 4 := op.extractLsb' 0 4

/-- Bits 4:0 of the opcode: the short address (30_encoding R106). -/
def srtField (op : Byte) : BitVec 5 := op.extractLsb' 0 5

/-- Bits 3:1 of the opcode: the bit number of BRSET, BRCLR, BSET and BCLR (30_encoding R111). -/
def bitField (op : Byte) : BitVec 3 := op.extractLsb' 1 3

/-- The extended address: the low 14 bits of `hh : ll`, bits 7:6 of `hh` ignored (30_encoding R108; the spec's decision D2, log 14). -/
def extField (hh ll : Byte) : Addr := (hh ++ ll).extractLsb' 0 14

/-- Row $3x of the opcode map (30_encoding R110, R114). -/
def decodeRow3 (op b1 b2 : Byte) : Instr :=
  match tnyField op with
  | 0x0#4 => .bra b1
  | 0x1#4 => .cbeqDir b1 b2
  | 0x2#4 => .illegal32
  | 0x3#4 => .illegal33
  | 0x4#4 => .bcc b1
  | 0x5#4 => .bcs b1
  | 0x6#4 => .bne b1
  | 0x7#4 => .beq b1
  | 0x8#4 => .clc
  | 0x9#4 => .sec
  | 0xA#4 => .decDir b1
  | 0xB#4 => .dbnzDir b1 b2
  | 0xC#4 => .incDir b1
  | 0xD#4 => .illegal3D
  | 0xE#4 => .movImm b1 b2
  | _     => .clrDir b1

/-- Row $4x of the opcode map (30_encoding R110, R114). -/
def decodeRow4 (op b1 b2 : Byte) : Instr :=
  match tnyField op with
  | 0x0#4 => .illegal40
  | 0x1#4 => .cbeqa b1 b2
  | 0x2#4 => .sla
  | 0x3#4 => .coma
  | 0x4#4 => .lsra
  | 0x5#4 => .sha
  | 0x6#4 => .rora
  | 0x7#4 => .illegal47
  | 0x8#4 => .lsla
  | 0x9#4 => .rola
  | 0xA#4 => .deca
  | 0xB#4 => .dbnza b1
  | 0xC#4 => .inca
  | 0xD#4 => .illegal4D
  | 0xE#4 => .movDir b1 b2
  | _     => .clra

/-- Row $Ax of the opcode map (30_encoding R110, R114). -/
def decodeRowA (op b1 : Byte) : Instr :=
  match tnyField op with
  | 0x0#4 => .subImm b1
  | 0x1#4 => .cmpImm b1
  | 0x2#4 => .sbcImm b1
  | 0x3#4 => .illegalA3
  | 0x4#4 => .andImm b1
  | 0x5#4 => .illegalA5
  | 0x6#4 => .ldaImm b1
  | 0x7#4 => .illegalA7
  | 0x8#4 => .eorImm b1
  | 0x9#4 => .adcImm b1
  | 0xA#4 => .oraImm b1
  | 0xB#4 => .addImm b1
  | 0xC#4 => .nop
  | 0xD#4 => .bsr b1
  | 0xE#4 => .stop
  | _     => .wait

/-- Row $Bx of the opcode map (30_encoding R110, R114). -/
def decodeRowB (op b1 b2 : Byte) : Instr :=
  match tnyField op with
  | 0x0#4 => .subDir b1
  | 0x1#4 => .cmpDir b1
  | 0x2#4 => .sbcDir b1
  | 0x3#4 => .illegalB3
  | 0x4#4 => .andDir b1
  | 0x5#4 => .illegalB5
  | 0x6#4 => .ldaDir b1
  | 0x7#4 => .staDir b1
  | 0x8#4 => .eorDir b1
  | 0x9#4 => .adcDir b1
  | 0xA#4 => .oraDir b1
  | 0xB#4 => .addDir b1
  | 0xC#4 => .jmp (extField b1 b2)
  | 0xD#4 => .jsr (extField b1 b2)
  | 0xE#4 => .rts
  | _     => .bgnd

/-- The CPU's decoder: the opcode and the two bytes after it to the native instruction or the illegal opcode (30_encoding R110, R114). An operand
byte that the opcode's length leaves out is not looked at (R100). -/
def decodeNative (op b1 b2 : Byte) : Instr :=
  match opRow op with
  | 0x0#4 => if op.getLsbD 0 then .brclr (bitField op) b1 b2 else .brset (bitField op) b1 b2
  | 0x1#4 => if op.getLsbD 0 then .bclr (bitField op) b1 else .bset (bitField op) b1
  | 0x2#4 => .incTny (tnyField op)
  | 0x3#4 => decodeRow3 op b1 b2
  | 0x4#4 => decodeRow4 op b1 b2
  | 0x5#4 => .decTny (tnyField op)
  | 0x6#4 => .addTny (tnyField op)
  | 0x7#4 => .subTny (tnyField op)
  | 0x8#4 | 0x9#4 => .clrSrt (srtField op)
  | 0xA#4 => decodeRowA op b1
  | 0xB#4 => decodeRowB op b1 b2
  | 0xC#4 | 0xD#4 => .ldaSrt (srtField op)
  | _ => .staSrt (srtField op)

/-- The form chosen by an operand address: D[X], X, or neither. -/
def byAddr (dd : Byte) (ix x plain : Instr) : Instr := if dd = ixAddr then ix else if dd = xAddr then x else plain

/-- The name Table 2-12 gives to 4E ss dd (30_encoding R120; where several rows have the same words, log 2). -/
def nameMov (ss dd : Byte) : Instr :=
  if ss = dd then byAddr dd .tstIx .tstX (.tstDir dd)
  else if dd = xAddr then (if ss = ixAddr then .ldxIx else .ldxDir ss)
  else if ss = xAddr then .stxDir dd
  else if ss = ixAddr then .movIxDir dd
  else if dd = ixAddr then .movDirIx ss
  else .movDir ss dd

/-- The name Table 2-12 gives to the words of a native instruction (30_encoding R120; log 2). Every other instruction keeps its name. -/
def named : Instr → Instr
  | .brset n dd rr => byAddr dd (.brsetIx n rr) (.brsetX n rr) (.brset n dd rr)
  | .brclr n dd rr => byAddr dd (.brclrIx n rr) (.brclrX n rr) (.brclr n dd rr)
  | .bset n dd => byAddr dd (.bsetIx n) (.bsetX n) (.bset n dd)
  | .bclr n dd => byAddr dd (.bclrIx n) (.bclrX n) (.bclr n dd)
  | .cbeqDir dd rr => byAddr dd (.cbeqIx rr) (.cbeqX rr) (.cbeqDir dd rr)
  | .dbnzDir dd rr => byAddr dd (.dbnzIx rr) (.dbnzX rr) (.dbnzDir dd rr)
  | .adcDir dd => byAddr dd .adcIx .adcX (.adcDir dd)
  | .sbcDir dd => byAddr dd .sbcIx .sbcX (.sbcDir dd)
  | .cmpDir dd => byAddr dd .cmpIx .cmpX (.cmpDir dd)
  | .andDir dd => byAddr dd .andIx .andX (.andDir dd)
  | .oraDir dd => byAddr dd .oraIx .oraX (.oraDir dd)
  | .eorDir dd => byAddr dd .eorIx .eorX (.eorDir dd)
  | .incTny a => if a = 0xE#4 then .incIx else if a = 0xF#4 then .incX else .incTny a
  | .decTny a => if a = 0xE#4 then .decIx else if a = 0xF#4 then .decX else .decTny a
  | .addTny a => if a = 0xE#4 then .addIx else if a = 0xF#4 then .addX else .addTny a
  | .subTny a => if a = 0xE#4 then .subIx else if a = 0xF#4 then .subX else .subTny a
  | .clrSrt a => if a = 0x0E#5 then .clrIx else if a = 0x0F#5 then .clrX else .clrSrt a
  | .ldaSrt a => if a = 0x0E#5 then .ldaIx else if a = 0x0F#5 then .txa else .ldaSrt a
  | .staSrt a => if a = 0x0E#5 then .staIx else if a = 0x0F#5 then .tax else .staSrt a
  | .bra rr => if rr = 0#8 then .brn else .bra rr
  | .oraImm ii => if ii = 0#8 then .tsta else .oraImm ii
  | .movImm ii dd => byAddr dd (.movImmIx ii) (.ldxImm ii) (.movImm ii dd)
  | .movDir ss dd => nameMov ss dd
  | i => i

/-- The native instruction a pseudo instruction is assembled to (30_encoding R120); every other instruction is its own. -/
def native : Instr → Instr
  | .brsetIx n rr => .brset n ixAddr rr
  | .brsetX n rr => .brset n xAddr rr
  | .brclrIx n rr => .brclr n ixAddr rr
  | .brclrX n rr => .brclr n xAddr rr
  | .bsetIx n => .bset n ixAddr
  | .bsetX n => .bset n xAddr
  | .bclrIx n => .bclr n ixAddr
  | .bclrX n => .bclr n xAddr
  | .cbeqIx rr => .cbeqDir ixAddr rr
  | .cbeqX rr => .cbeqDir xAddr rr
  | .dbnzIx rr => .dbnzDir ixAddr rr
  | .dbnzX rr => .dbnzDir xAddr rr
  | .adcIx => .adcDir ixAddr
  | .adcX => .adcDir xAddr
  | .sbcIx => .sbcDir ixAddr
  | .sbcX => .sbcDir xAddr
  | .cmpIx => .cmpDir ixAddr
  | .cmpX => .cmpDir xAddr
  | .andIx => .andDir ixAddr
  | .andX => .andDir xAddr
  | .oraIx => .oraDir ixAddr
  | .oraX => .oraDir xAddr
  | .eorIx => .eorDir ixAddr
  | .eorX => .eorDir xAddr
  | .incIx => .incTny 0xE#4
  | .incX => .incTny 0xF#4
  | .decIx => .decTny 0xE#4
  | .decX => .decTny 0xF#4
  | .addIx => .addTny 0xE#4
  | .addX => .addTny 0xF#4
  | .subIx => .subTny 0xE#4
  | .subX => .subTny 0xF#4
  | .clrIx => .clrSrt 0x0E#5
  | .clrX => .clrSrt 0x0F#5
  | .ldaIx => .ldaSrt 0x0E#5
  | .txa => .ldaSrt 0x0F#5
  | .staIx => .staSrt 0x0E#5
  | .staX => .staSrt 0x0F#5
  | .tax => .staSrt 0x0F#5
  | .asla => .lsla
  | .bhs rr => .bcc rr
  | .blo rr => .bcs rr
  | .brn => .bra 0#8
  | .tsta => .oraImm 0#8
  | .ldxImm ii => .movImm ii xAddr
  | .movImmIx ii => .movImm ii ixAddr
  | .ldxDir dd => .movDir dd xAddr
  | .ldxIx => .movDir ixAddr xAddr
  | .stxDir dd => .movDir xAddr dd
  | .movIxDir dd => .movDir ixAddr dd
  | .movDirIx ss => .movDir ss ixAddr
  | .tstDir dd => .movDir dd dd
  | .tstIx => .movDir ixAddr ixAddr
  | .tstX => .movDir xAddr xAddr
  | i => i

/-- The decoder the machine uses: the CPU's decoder, with the pseudo instructions named (log 2). -/
def decodeOp (op b1 b2 : Byte) : Instr := named (decodeNative op b1 b2)

/-- The eleven opcodes with no instruction (30_encoding R114). -/
def illegalOpcodes : List Byte := [0x32, 0x33, 0x3D, 0x40, 0x47, 0x4D, 0xA3, 0xA5, 0xA7, 0xB3, 0xB5]

/-- How many bytes the CPU fetches for an opcode (30_encoding R100): 1, 2 or 3; of an illegal opcode only the opcode itself (R114). -/
def opLength (op : Byte) : Nat :=
  match opRow op with
  | 0x0#4 => 3
  | 0x1#4 => 2
  | 0x3#4 => if op ∈ illegalOpcodes then 1 else if op = 0x31#8 ∨ op = 0x3B#8 ∨ op = 0x3E#8 then 3 else if op = 0x38#8 ∨ op = 0x39#8 then 1 else 2
  | 0x4#4 => if op = 0x41#8 ∨ op = 0x4E#8 then 3 else if op = 0x4B#8 then 2 else 1
  | 0xA#4 => if op ∈ illegalOpcodes then 1 else if op = 0xAC#8 ∨ op = 0xAE#8 ∨ op = 0xAF#8 then 1 else 2
  | 0xB#4 => if op ∈ illegalOpcodes then 1 else if op = 0xBC#8 ∨ op = 0xBD#8 then 3 else if op = 0xBE#8 ∨ op = 0xBF#8 then 1 else 2
  | _ => 1

/-- Why bytes hold no whole instruction. There is no other reason: each of the 256 opcodes is an instruction or an illegal opcode (30_encoding R110). -/
inductive DecodeReject where
  /-- No opcode byte. -/
  | noBytes
  /-- The instruction of this opcode is longer than the bytes given. -/
  | truncated (op : Byte)
deriving DecidableEq, Repr

/-- What the decoder makes of bytes: an instruction and the bytes after it, or a named rejection. -/
inductive DecodeResult where
  | decoded (i : Instr) (rest : List Byte)
  | rejected (r : DecodeReject)
deriving DecidableEq, Repr

/-- Decode the first instruction of a byte list, in address order (30_encoding R100, R101). -/
def decode : List Byte → DecodeResult
  | [] => .rejected .noBytes
  | op :: rest =>
    if opLength op = 1 then .decoded (decodeOp op 0 0) rest
    else
      match rest with
      | [] => .rejected (.truncated op)
      | b1 :: rest1 =>
        if opLength op = 2 then .decoded (decodeOp op b1 0) rest1
        else
          match rest1 with
          | [] => .rejected (.truncated op)
          | b2 :: rest2 => .decoded (decodeOp op b1 b2) rest2

/-! The debug commands (47_bdc_commands R277, R278). -/

/-- How many bytes the host sends after a command code; none for a code that is not in Table 3-2 (47_bdc_commands R278, R280). For WRITE_BLOCK the
address and the first data byte; the bytes after them are taken while the block is open (R311). -/
def commandItems (code : Byte) : Option Nat :=
  if code = 0x18#8 ∨ code = 0x90#8 ∨ code = 0xE4#8 ∨ code = 0xE2#8 ∨ code = 0x08#8 ∨ code = 0x10#8 ∨ code = 0x68#8 ∨ code = 0x6B#8 ∨ code = 0x6F#8 then some 0
  else if code = 0xC4#8 ∨ code = 0x48#8 then some 1
  else if code = 0xE0#8 ∨ code = 0xE1#8 ∨ code = 0x80#8 ∨ code = 0xC2#8 ∨ code = 0x4B#8 ∨ code = 0x4F#8 then some 2
  else if code = 0xC0#8 ∨ code = 0xC1#8 ∨ code = 0x88#8 then some 3
  else none

/-- The command of a code that takes no item from the host. -/
def command0 (code : Byte) : Option Instr :=
  if code = 0x18#8 then some .bdcReset
  else if code = 0x90#8 then some .background
  else if code = 0xE4#8 then some .readStatus
  else if code = 0xE2#8 then some .readBkpt
  else if code = 0x08#8 then some .go
  else if code = 0x10#8 then some .trace1
  else if code = 0x68#8 then some .readA
  else if code = 0x6B#8 then some .readCcrPc
  else if code = 0x6F#8 then some .readSpc
  else none

/-- The command of a code with one data byte. -/
def command1 (code d : Byte) : Option Instr :=
  if code = 0xC4#8 then some (.writeControl d)
  else if code = 0x48#8 then some (.writeA d)
  else none

/-- The command of a code with one 16-bit item, its high byte first (47_bdc_commands R272). -/
def command2 (code hi lo : Byte) : Option Instr :=
  if code = 0xE0#8 then some (.readByte (hi ++ lo))
  else if code = 0xE1#8 then some (.readByteWs (hi ++ lo))
  else if code = 0x80#8 then some (.readBlock (hi ++ lo))
  else if code = 0xC2#8 then some (.writeBkpt (hi ++ lo))
  else if code = 0x4B#8 then some (.writeCcrPc (hi ++ lo))
  else if code = 0x4F#8 then some (.writeSpc (hi ++ lo))
  else none

/-- The command of a code with an address and a data byte. -/
def command3 (code hi lo d : Byte) : Option Instr :=
  if code = 0xC0#8 then some (.writeByte (hi ++ lo) d)
  else if code = 0xC1#8 then some (.writeByteWs (hi ++ lo) d)
  else if code = 0x88#8 then some (.writeBlock (hi ++ lo) d)
  else none

/-- The command that a code and its items make; none for a code that is not in Table 3-2 or for another number of items (47_bdc_commands R278, R280). -/
def decodeCommand (code : Byte) (items : List Byte) : Option Instr :=
  match items with
  | [] => command0 code
  | [d] => command1 code d
  | [hi, lo] => command2 code hi lo
  | [hi, lo, d] => command3 code hi lo d
  | _ => none

/-- The instruction is a command of the debug host, not an instruction of the CPU (47_bdc_commands R278). -/
def isCommand : Instr → Bool
  | .bdcReset | .background | .readStatus | .writeControl _ | .readByte _ | .readByteWs _ | .writeByte _ _ | .writeByteWs _ _ | .readBkpt | .writeBkpt _
  | .go | .trace1 | .readBlock _ | .writeBlock _ _ | .readA | .writeA _ | .readCcrPc | .writeCcrPc _ | .readSpc | .writeSpc _ | .sync => true
  | _ => false

/-! The encoder (30_encoding R101, R110, R120; 47_bdc_commands R278). -/

/-- An opcode of the opcode map with a bit number in bits 3:1 (30_encoding R111). -/
def bitOp (base : Byte) (n : BitVec 3) : Byte := base ||| (n.setWidth 8 <<< 1)

/-- An opcode with a tiny address in bits 3:0 (30_encoding R105). -/
def tnyOp (base : Byte) (a : BitVec 4) : Byte := base ||| a.setWidth 8

/-- An opcode with a short address in bits 4:0 (30_encoding R106). -/
def srtOp (base : Byte) (a : BitVec 5) : Byte := base ||| a.setWidth 8

/-- An extended instruction: `hh` with two zero bits above the address, then `ll` (30_encoding R108). -/
def extWords (op : Byte) (ea : Addr) : List Byte := [op, (ea.extractLsb' 8 6).setWidth 8, ea.extractLsb' 0 8]

/-- The high byte of a 16-bit item. -/
def hiByte (w : Word16) : Byte := w.extractLsb' 8 8

/-- The low byte of a 16-bit item. -/
def loByte (w : Word16) : Byte := w.extractLsb' 0 8

/-- The bytes of an instruction, in address order; of a debug command, the bytes the host sends, in order (SYNC has no code: R283). -/
def encode : Instr → List Byte
  | .brset n dd rr => [bitOp 0x00 n, dd, rr]
  | .brclr n dd rr => [bitOp 0x01 n, dd, rr]
  | .bset n dd => [bitOp 0x10 n, dd]
  | .bclr n dd => [bitOp 0x11 n, dd]
  | .incTny a => [tnyOp 0x20 a]
  | .bra rr => [0x30, rr]
  | .cbeqDir dd rr => [0x31, dd, rr]
  | .bcc rr => [0x34, rr]
  | .bcs rr => [0x35, rr]
  | .bne rr => [0x36, rr]
  | .beq rr => [0x37, rr]
  | .clc => [0x38]
  | .sec => [0x39]
  | .decDir dd => [0x3A, dd]
  | .dbnzDir dd rr => [0x3B, dd, rr]
  | .incDir dd => [0x3C, dd]
  | .movImm ii dd => [0x3E, ii, dd]
  | .clrDir dd => [0x3F, dd]
  | .cbeqa ii rr => [0x41, ii, rr]
  | .sla => [0x42]
  | .coma => [0x43]
  | .lsra => [0x44]
  | .sha => [0x45]
  | .rora => [0x46]
  | .lsla => [0x48]
  | .rola => [0x49]
  | .deca => [0x4A]
  | .dbnza rr => [0x4B, rr]
  | .inca => [0x4C]
  | .movDir ss dd => [0x4E, ss, dd]
  | .clra => [0x4F]
  | .decTny a => [tnyOp 0x50 a]
  | .addTny a => [tnyOp 0x60 a]
  | .subTny a => [tnyOp 0x70 a]
  | .clrSrt a => [srtOp 0x80 a]
  | .subImm ii => [0xA0, ii]
  | .cmpImm ii => [0xA1, ii]
  | .sbcImm ii => [0xA2, ii]
  | .andImm ii => [0xA4, ii]
  | .ldaImm ii => [0xA6, ii]
  | .eorImm ii => [0xA8, ii]
  | .adcImm ii => [0xA9, ii]
  | .oraImm ii => [0xAA, ii]
  | .addImm ii => [0xAB, ii]
  | .nop => [0xAC]
  | .bsr rr => [0xAD, rr]
  | .stop => [0xAE]
  | .wait => [0xAF]
  | .subDir dd => [0xB0, dd]
  | .cmpDir dd => [0xB1, dd]
  | .sbcDir dd => [0xB2, dd]
  | .andDir dd => [0xB4, dd]
  | .ldaDir dd => [0xB6, dd]
  | .staDir dd => [0xB7, dd]
  | .eorDir dd => [0xB8, dd]
  | .adcDir dd => [0xB9, dd]
  | .oraDir dd => [0xBA, dd]
  | .addDir dd => [0xBB, dd]
  | .jmp ea => extWords 0xBC ea
  | .jsr ea => extWords 0xBD ea
  | .rts => [0xBE]
  | .bgnd => [0xBF]
  | .ldaSrt a => [srtOp 0xC0 a]
  | .staSrt a => [srtOp 0xE0 a]
  | .illegal32 => [0x32]
  | .illegal33 => [0x33]
  | .illegal3D => [0x3D]
  | .illegal40 => [0x40]
  | .illegal47 => [0x47]
  | .illegal4D => [0x4D]
  | .illegalA3 => [0xA3]
  | .illegalA5 => [0xA5]
  | .illegalA7 => [0xA7]
  | .illegalB3 => [0xB3]
  | .illegalB5 => [0xB5]
  | .adcIx => [0xB9, 0x0E]
  | .adcX => [0xB9, 0x0F]
  | .sbcIx => [0xB2, 0x0E]
  | .sbcX => [0xB2, 0x0F]
  | .andIx => [0xB4, 0x0E]
  | .andX => [0xB4, 0x0F]
  | .oraIx => [0xBA, 0x0E]
  | .oraX => [0xBA, 0x0F]
  | .eorIx => [0xB8, 0x0E]
  | .eorX => [0xB8, 0x0F]
  | .cmpIx => [0xB1, 0x0E]
  | .cmpX => [0xB1, 0x0F]
  | .addIx => [0x6E]
  | .addX => [0x6F]
  | .subIx => [0x7E]
  | .subX => [0x7F]
  | .incIx => [0x2E]
  | .incX => [0x2F]
  | .decIx => [0x5E]
  | .decX => [0x5F]
  | .clrIx => [0x8E]
  | .clrX => [0x8F]
  | .asla => [0x48]
  | .bhs rr => [0x34, rr]
  | .blo rr => [0x35, rr]
  | .brn => [0x30, 0x00]
  | .bsetIx n => [bitOp 0x10 n, 0x0E]
  | .bsetX n => [bitOp 0x10 n, 0x0F]
  | .bclrIx n => [bitOp 0x11 n, 0x0E]
  | .bclrX n => [bitOp 0x11 n, 0x0F]
  | .brsetIx n rr => [bitOp 0x00 n, 0x0E, rr]
  | .brsetX n rr => [bitOp 0x00 n, 0x0F, rr]
  | .brclrIx n rr => [bitOp 0x01 n, 0x0E, rr]
  | .brclrX n rr => [bitOp 0x01 n, 0x0F, rr]
  | .cbeqIx rr => [0x31, 0x0E, rr]
  | .cbeqX rr => [0x31, 0x0F, rr]
  | .dbnzIx rr => [0x3B, 0x0E, rr]
  | .dbnzX rr => [0x3B, 0x0F, rr]
  | .ldaIx => [0xCE]
  | .staIx => [0xEE]
  | .staX => [0xEF]
  | .tax => [0xEF]
  | .txa => [0xCF]
  | .ldxImm ii => [0x3E, ii, 0x0F]
  | .ldxDir dd => [0x4E, dd, 0x0F]
  | .ldxIx => [0x4E, 0x0E, 0x0F]
  | .stxDir dd => [0x4E, 0x0F, dd]
  | .movIxDir dd => [0x4E, 0x0E, dd]
  | .movDirIx ss => [0x4E, ss, 0x0E]
  | .movImmIx ii => [0x3E, ii, 0x0E]
  | .tstDir dd => [0x4E, dd, dd]
  | .tstIx => [0x4E, 0x0E, 0x0E]
  | .tstX => [0x4E, 0x0F, 0x0F]
  | .tsta => [0xAA, 0x00]
  | .bdcReset => [0x18]
  | .background => [0x90]
  | .readStatus => [0xE4]
  | .writeControl cc => [0xC4, cc]
  | .readByte aaaa => [0xE0, hiByte aaaa, loByte aaaa]
  | .readByteWs aaaa => [0xE1, hiByte aaaa, loByte aaaa]
  | .writeByte aaaa wd => [0xC0, hiByte aaaa, loByte aaaa, wd]
  | .writeByteWs aaaa wd => [0xC1, hiByte aaaa, loByte aaaa, wd]
  | .readBkpt => [0xE2]
  | .writeBkpt wbkp => [0xC2, hiByte wbkp, loByte wbkp]
  | .go => [0x08]
  | .trace1 => [0x10]
  | .readBlock aaaa => [0x80, hiByte aaaa, loByte aaaa]
  | .writeBlock aaaa wd => [0x88, hiByte aaaa, loByte aaaa, wd]
  | .readA => [0x68]
  | .writeA wd => [0x48, wd]
  | .readCcrPc => [0x6B]
  | .writeCcrPc wd16 => [0x4B, hiByte wd16, loByte wd16]
  | .readSpc => [0x6F]
  | .writeSpc wd16 => [0x4F, hiByte wd16, loByte wd16]
  | .sync => []

/-- The bytes of a table word: spec/opcode_table.json writes a row's bits with the FIRST byte the most significant of its width
(spec INDEX.md, keys `match` and `mask`), so the first of the nbits/8 bytes is the top one (log 1). -/
def tableBytes : Nat → Nat → List Byte
  | 0, _ => []
  | k + 1, w => BitVec.ofNat 8 (w / 256 ^ k) :: tableBytes k w

/-- The bytes of a table word as the hardware stores them, filled up with zero bytes to the longest instruction. -/
def storedBytes (nbits w : Nat) : List Byte := (tableBytes ((nbits + 7) / 8) w ++ [0, 0, 0]).take 3

/-- The instruction the decoder reads from an instruction whose bits are w, numbered as spec/opcode_table.json numbers them (log 1). -/
def decodeTableWord (nbits w : Nat) : Option Instr :=
  match decode (storedBytes nbits w) with
  | .decoded i _ => some i
  | .rejected _ => none

end Sys2Proof
end

