-- ==== Sys2Proof/Machine/Flags.lean ====
section
/-! DEFINITION. The values and flags of the arithmetic, the shifts and the bit operations (spec 41_math R170, 43_shift_rotate R211–R214, 40_data_movement R148). -/

namespace Sys2Proof.Machine

/-- The Z flag of a result, setZ (00_scope R17; 10_state R30). -/
def zeroFlag (v : Byte) : Bool := v == 0#8

/-- Addition with carry in: the result and the carry out of bit 7 (41_math R170). -/
def add8 (a m : Byte) (c : Bool) : Byte × Bool :=
  let s := a.toNat + m.toNat + c.toNat
  (BitVec.ofNat 8 s, decide (256 ≤ s))

/-- Subtraction with borrow in: the result and the borrow (41_math R170). -/
def sub8 (a m : Byte) (c : Bool) : Byte × Bool :=
  let d : Int := (a.toNat : Int) - m.toNat - c.toNat
  (BitVec.ofInt 8 d, decide (d < 0))

/-- Bits 7 to 0 moved one place to the left; `c` enters at bit 0 and bit 7 leaves (43_shift_rotate R211, R213). -/
def shiftLeft8 (v : Byte) (c : Bool) : Byte × Bool := (v.extractLsb' 0 7 ++ BitVec.ofBool c, v.getLsbD 7)

/-- Bits 7 to 0 moved one place to the right; `c` enters at bit 7 and bit 0 leaves (43_shift_rotate R212, R214). -/
def shiftRight8 (v : Byte) (c : Bool) : Byte × Bool := (BitVec.ofBool c ++ v.extractLsb' 1 7, v.getLsbD 0)

/-- The byte with bit n alone set. -/
def bitMask (n : BitVec 3) : Byte := 1#8 <<< n.toNat

/-- A byte with bit n set (40_data_movement R148). -/
def setBit (n : BitVec 3) (v : Byte) : Byte := v ||| bitMask n

/-- A byte with bit n cleared (40_data_movement R149). -/
def clearBit (n : BitVec 3) (v : Byte) : Byte := v &&& ~~~ bitMask n

/-- Bit n of a byte (44_branch_loop R230). -/
def testBit (n : BitVec 3) (v : Byte) : Bool := v.getLsbD n.toNat

/-- An offset extended to 14 bits with its sign (44_branch_loop R220). -/
def offset (rr : Byte) : Addr := rr.signExtend 14

end Sys2Proof.Machine
end

