-- ==== Sys2Proof/Machine/Device.lean ====
section
/-! DEFINITION. The device around the core: the parameters DEVICE, ILLEGAL_ADDR, PAGESEL_RESET, BDCSCR_RESET_BKGD_LOW and BDCBKPT_RESET of 00_scope R8, and whether the clock of the
debug controller runs in wait and in stop (47_bdc_commands R282), as data. No step changes them, so that a statement for every state is a statement for every device (log 9). -/

namespace Sys2Proof.Machine

/-- What stands at a physical address (20_memory R62, R64). -/
inductive Kind where
  /-- Storage that a store changes: RAM, and the registers X and PAGESEL, which behave as plain storage (10_state R38). -/
  | ram
  /-- Storage no store changes (92 D14; 93 section 1 row 6). -/
  | flash
  /-- A peripheral register, whose behaviour the spec leaves to the device (20_memory R74; log 11). -/
  | io
  /-- An address nothing implements that is not in ILLEGAL_ADDR (93 section 1 row 7; log 11). -/
  | vacant
  /-- A member of ILLEGAL_ADDR (60_exceptions R325). -/
  | illegal
deriving DecidableEq, Repr

/-- A run of addresses of one kind. -/
structure Region where
  base : Nat
  size : Nat
  kind : Kind
deriving DecidableEq, Repr

/-- The parameters of the device. The two clock rules say whether the clock of the debug controller runs in wait, and whether it runs in stop, with ENBDM 0
(47_bdc_commands R282): a DESIGN CHOICE, that this depends on the mode alone (log 28). -/
structure Device where
  regions : List Region
  pageselReset : Byte
  bdcbkptReset : Word16
  bdcscrResetBkgdLow : Byte
  bdcClockInWait : Bool
  bdcClockInStop : Bool
deriving DecidableEq, Repr

/-- Where the register X is (10_state R34). -/
abbrev xPhys : Addr := 0x000F#14

/-- Where the register PAGESEL is (10_state R36). -/
abbrev pageselPhys : Addr := 0x001F#14

/-- The kind of the first region that holds an address; an address of no region is in ILLEGAL_ADDR (92 D14). -/
def kindIn : List Region → Nat → Kind
  | [], _ => .illegal
  | r :: rs, p => if r.base ≤ p ∧ p < r.base + r.size then r.kind else kindIn rs p

/-- The kind of a physical address. X and PAGESEL are there on every device, whatever its map says (20_memory R62, R74; log 10). -/
def Device.kindAt (d : Device) (p : Addr) : Kind :=
  if p = xPhys ∨ p = pageselPhys then .ram else kindIn d.regions p.toNat

/-- The map of decision D14 (92): RAM at $0000–$000E and $0020–$004F, flash at $3800–$3FFF, everything else in ILLEGAL_ADDR (log 9). PAGESEL_RESET is PRESUMED $08, the
family's (log 7); BDCBKPT_RESET is a DESIGN CHOICE, $0000 (log 8); BDCSCR_RESET_BKGD_LOW is $C0 (10_state R47; log 41); the clock rules are a DESIGN CHOICE (log 28). -/
def Device.standard : Device where
  regions := [⟨0x0000, 15, .ram⟩, ⟨0x0020, 48, .ram⟩, ⟨0x3800, 2048, .flash⟩]
  pageselReset := 0x08#8
  bdcbkptReset := 0x0000#16
  bdcscrResetBkgdLow := 0xC0#8
  bdcClockInWait := true
  bdcClockInStop := true

end Sys2Proof.Machine
end

