-- ==== Sys2Proof/Machine/Memory.lean ====
section
/-! DEFINITION. The byte storage of the device: Mem of 10_state R53, 16384 bytes (20_memory R60). -/

namespace Sys2Proof.Machine

/-- The bytes that differ from what an unlisted address reads as, in rising address order. X and PAGESEL are fields of State of their own (10_state R53). -/
abbrev Memory := List Host.Cell

/-- What a byte that nothing has written reads as. DESIGN CHOICE, unsafe (log 6): the spec leaves the contents of RAM after power-on open (70 R374). -/
def Memory.unlisted : Byte := 0#8

/-- The number of addresses (20_memory R60). -/
def addressSpace : Nat := 16384

/-- The byte stored at an address. -/
def Memory.read : Memory → Nat → Byte
  | [], _ => Memory.unlisted
  | c :: m, p => if c.1 = p then c.2 else Memory.read m p

/-- Put a byte into the list at its place; an entry for the same address is replaced. -/
def Memory.insertCell : Memory → Nat → Byte → Memory
  | [], p, v => [(p, v)]
  | c :: m, p, v =>
    if c.1 < p then c :: Memory.insertCell m p v
    else if c.1 = p then (p, v) :: m
    else (p, v) :: c :: m

/-- Take the entry of an address out of the list. -/
def Memory.eraseCell : Memory → Nat → Memory
  | [], _ => []
  | c :: m, p => if c.1 = p then m else c :: Memory.eraseCell m p

/-- Store a byte, keeping the canonical form. -/
def Memory.write (m : Memory) (p : Nat) (v : Byte) : Memory :=
  if v = Memory.unlisted then Memory.eraseCell m p else Memory.insertCell m p v

/-- The canonical form: addresses strictly rising and inside the address space, no entry equal to what an unlisted address reads as. -/
def Memory.wf (m : Memory) : Bool :=
  decide (m.Pairwise fun c d => c.1 < d.1) && m.all fun c => decide (c.1 < addressSpace) && c.2 != Memory.unlisted

end Sys2Proof.Machine
end

