-- ==== Sys2Proof/Machine/State.lean ====
section
/-! DEFINITION. The state of the RS08 core (spec 10_state), the inputs of the world around it, and the state after reset. -/

namespace Sys2Proof.Machine

/-- The five conditions of the CPU (10_state R39). -/
inductive Mode where
  | run
  | wait
  | stop
  | background
  | reset
deriving DecidableEq, Repr

/-- Why a reset happened (60_exceptions R320). -/
inductive ResetCause where
  | por
  | pin
  | lvd
  | cop
  | illegalOpcode
  | illegalAddress
  | bdcReset
deriving DecidableEq, Repr

/-- The fields of BDCSCR (10_state R41). Bits 3 and 0 have no storage (log 18). -/
structure Bdcscr where
  enbdm : Bool
  bdmact : Bool
  bkpten : Bool
  fts : Bool
  ws : Bool
  wsf : Bool
deriving DecidableEq, Repr

/-- Where the debug controller is in a command (10_state R51 item 4; 47_bdc_commands R276, R281, R310, R311). -/
inductive Serial where
  /-- The next byte is a command code. -/
  | idle
  /-- A code and the items received so far, oldest first. -/
  | receiving (code : Byte) (items : List Byte)
  /-- READ_BLOCK is open; the address of the next byte. -/
  | readBlock (p : Addr)
  /-- WRITE_BLOCK is open; the address of the next byte. -/
  | writeBlock (p : Addr)
  /-- A READ_BLOCK that came with BDMACT 0 lasts to its soft-reset and reads nothing (R281; log 21). -/
  | readBlockRefused
  /-- A WRITE_BLOCK that came with BDMACT 0 lasts to its soft-reset and writes nothing (R281; log 21). -/
  | writeBlockRefused
deriving DecidableEq, Repr

/-- A reset source outside the core that holds the CPU in reset (60_exceptions R320). -/
inductive ResetSource where
  | pin
  | lvd
  | cop
deriving DecidableEq, Repr

/-- A reset that becomes active inside an instruction and not by the instruction itself (60_exceptions R321; log 27). -/
inductive TurnReset where
  /-- A source outside the core, which then holds the CPU in reset. -/
  | source (source : ResetSource)
  /-- The host's BDC_RESET (47_bdc_commands R284). -/
  | bdcReset
deriving DecidableEq, Repr

/-- When a byte of the host is complete, relative to the instructions (47_bdc_commands R279, R294; log 23, log 26). -/
inductive Timing where
  /-- Between two instructions, or while the CPU executes none. -/
  | boundary
  /-- At about the same time as a WAIT or STOP that the CPU has just executed or executes next: a memory access of the command then fails. -/
  | collide
  /-- Between two instructions; and where the byte completes a TRACE1, a reset source becomes active inside the instruction it runs, after its store or before it
  (60_exceptions R321; log 29). -/
  | cut (source : ResetSource) (stored : Bool)
deriving DecidableEq, Repr

/-- What the world around the core does next (00_scope R9; log 23). -/
inductive Input where
  /-- The CPU has its turn. -/
  | cpu
  /-- The CPU has its turn, with commands of the host between the read and the write of its instruction (47_bdc_commands R279; log 25) and a reset that becomes
  active after its store and before its end (60_exceptions R321, R335; log 27). -/
  | turn (commands : List Instr) (reset : Option TurnReset)
  /-- Power comes on; the bytes the RAM then holds, any (70_reset_and_hazards R374; log 20). The reset lasts until `resetOff`. -/
  | powerOn (ram : List Host.Cell)
  /-- A reset source becomes active. -/
  | resetOn (source : ResetSource)
  /-- The last reset source is released. -/
  | resetOff
  /-- The level of the wake-up request (60_exceptions R330). -/
  | wake (level : Bool)
  /-- The level that BKGD will have at the end of a reset (70_reset_and_hazards R372). -/
  | bkgd (low : Bool)
  /-- BKGD is held low for more than 128 cycles (47_bdc_commands R283). -/
  | sync
  /-- No falling edge for 512 cycles (47_bdc_commands R276). -/
  | softReset
  /-- Eight bit times: a byte from the host, or, while a reply or an open READ_BLOCK waits, a byte to the host. -/
  | byte (b : Byte) (timing : Timing)
deriving DecidableEq, Repr

/-- The state. The comments give the rule that names each piece. -/
structure State where
  a : Byte                        -- accumulator (10_state R21)
  pc : Addr                       -- program counter (R23)
  spc : Addr                      -- shadow program counter (R27)
  z : Bool                        -- zero flag (R30)
  c : Bool                        -- carry flag (R31)
  x : Byte                        -- index register at $000F (R34)
  pagesel : Byte                  -- page select register at $001F (R36)
  mem : Memory                    -- the other bytes of the address space (R53)
  mode : Mode                     -- operating mode (R39)
  bdcscr : Bdcscr                 -- debug status and control (R41)
  bdcbkpt : Word16                -- breakpoint match register (R49)
  wakeRequest : Bool              -- an enabled peripheral asks for service (R51 item 1)
  tag : Bool                      -- the opcode about to execute is tagged (R51 item 2)
  forcedRequest : Bool            -- a forced breakpoint is pending (R51 item 3)
  backgroundRequest : Bool        -- a BACKGROUND command is pending (R51 item 5)
  trace : Bool                    -- TRACE1 has restarted the CPU for one instruction (R43)
  serial : Serial                 -- the command being received, or the open block (R51 item 4)
  reply : List Byte               -- reply bytes the host has not fetched (47_bdc_commands R276)
  sent : List Byte                -- reply bytes the host has fetched, oldest first (the model's own, log 23)
  stolen : List Instr             -- commands waiting for their stolen cycles, the first first (the model's own, log 25)
  collision : Bool                -- the host's timing oracle for the command that completes (the model's own, log 26)
  afterSleep : Bool               -- the latest instruction of the CPU is a WAIT or STOP (the model's own, log 26)
  resetCause : ResetCause         -- the cause of the last reset (R51 item 6)
  wentWrong : Bool                -- the run has gone wrong: it has taken an illegal-opcode or illegal-address reset (60_exceptions R322; log 36)
  bkgdLowAtResetEnd : Bool        -- the input of 70_reset_and_hazards R372
  stores : List (Addr × Nat)      -- stores since the last change of flow: address, distance ahead of the CPU (the model's own, log 13)
  freeCount : Nat                 -- free values drawn so far (the model's own, log 34)
  dev : Device                    -- the parameters of the device (00_scope R8)
  env : List Input                -- the inputs to come (the model's own, log 23)
deriving DecidableEq, Repr

/-- The spec names no way for the machine to stop: its only exceptions are resets, which the machine takes as next states (60_exceptions R328). The type
has no constructor, so nothing raises a fault; that is safe. -/
inductive Fault where
deriving DecidableEq, Repr

/-- Why the model gives no meaning. -/
inductive Refusal where
  /-- Raised by an arm of exec whose instruction has no meaning yet; no arm does so. Safe: nothing is claimed of such an instruction. -/
  | notModelled (mnemonic : String)
deriving DecidableEq, Repr

/-- $3FFD, the address of the first opcode after reset (10_state R26). -/
def resetAddress : Addr := 0x3FFD#14

/-- BDCSCR after a reset in normal mode: every field 0 (10_state R47). -/
def Bdcscr.normalReset : Bdcscr := ⟨false, false, false, false, false, false⟩

/-- The machine right after reset (10_state R52; 70_reset_and_hazards R370): a power-on reset on the map of D14 that ended with BKGD high, as with no debug pod
connected (log 5, log 9), with no input to come. -/
def State.reset : State where
  a := 0#8
  pc := resetAddress
  spc := resetAddress
  z := false
  c := false
  x := 0#8
  pagesel := Device.standard.pageselReset
  mem := []
  mode := .run
  bdcscr := Bdcscr.normalReset
  bdcbkpt := Device.standard.bdcbkptReset
  wakeRequest := false
  tag := false
  forcedRequest := false
  backgroundRequest := false
  trace := false
  serial := .idle
  reply := []
  sent := []
  stolen := []
  collision := false
  afterSleep := false
  resetCause := .por
  wentWrong := false
  bkgdLowAtResetEnd := false
  stores := []
  freeCount := 0
  dev := Device.standard
  env := []

end Sys2Proof.Machine
end

