-- ==== Sys2Proof/Machine/Ops.lean ====
section
/-! DEFINITION. The named operations on registers and memory: address resolution and the access primitives of 20_memory, breakpoints, resets (the one kind of
exception, 60_exceptions R328) and the entry to active background mode. -/

namespace Sys2Proof.Machine

/-- What an operation that may reset the machine answers: a value and a state, or the cause of a reset (00_scope R17 `raise Reset`). -/
inductive Access (α : Type) where
  | ok (v : α) (s : State)
  | abort (cause : ResetCause) (s : State)

/-- Go on with the value, or abandon the instruction (60_exceptions R321). -/
def Access.bind {α β : Type} : Access α → (α → State → Access β) → Access β
  | .ok v s, f => f v s
  | .abort cause s, _ => .abort cause s

/-! ## Resets -/

/-- The cause a reset source from outside records (60_exceptions R320). -/
def ResetSource.cause : ResetSource → ResetCause
  | .pin => .pin
  | .lvd => .lvd
  | .cop => .cop

/-- The resets that are faults of the run (60_exceptions R322; log 36). -/
def ResetCause.isWrong : ResetCause → Bool
  | .illegalOpcode | .illegalAddress => true
  | .por | .pin | .lvd | .cop | .bdcReset => false

/-- A reset becomes active: the instruction is abandoned and the registers take their reset values; RAM and flash stay (70_reset_and_hazards R370, R374). Until it is
left the machine is in the reset condition (10_state R39). The cause is recorded (60_exceptions R327), and, for good, that the run has gone wrong where it is a fault of the run
(R322; log 36). -/
def State.enterReset (cause : ResetCause) (s : State) : State :=
  { s with
    a := 0#8, pc := resetAddress, spc := resetAddress, z := false, c := false, x := 0#8
    pagesel := s.dev.pageselReset, mode := .reset, bdcscr := Bdcscr.normalReset, bdcbkpt := s.dev.bdcbkptReset
    wakeRequest := false, tag := false, forcedRequest := false, backgroundRequest := false, trace := false
    serial := .idle, reply := [], stolen := [], collision := false, afterSleep := false, resetCause := cause, wentWrong := s.wentWrong || cause.isWrong, stores := [] }

/-- BDCSCR after a reset that ends with BKGD low (10_state R47): ENBDM and BDMACT are 1 and BKPTEN is 0, as the text fixes them; FTS, WS and WSF are those of the parameter
BDCSCR_RESET_BKGD_LOW, which the spec fixes to $C0 and keeps as a parameter (00_scope R8; log 41). -/
def Device.backgroundReset (d : Device) : Bdcscr where
  enbdm := true
  bdmact := true
  bkpten := false
  fts := d.bdcscrResetBkgdLow.getLsbD 4
  ws := d.bdcscrResetBkgdLow.getLsbD 2
  wsf := d.bdcscrResetBkgdLow.getLsbD 1

/-- The reset ends: the level of BKGD selects active background mode or run mode (70_reset_and_hazards R372; 10_state R47). -/
def State.leaveReset (s : State) : State :=
  if s.bkgdLowAtResetEnd then { s with bdcscr := s.dev.backgroundReset, mode := .background }
  else { s with bdcscr := Bdcscr.normalReset, mode := .run }

/-- Taking the exception: the whole reset of a cause that is not held active from outside (70_reset_and_hazards R370). There is no return from it (60_exceptions R321, R332). -/
def takeReset (cause : ResetCause) (s : State) : State := (s.enterReset cause).leaveReset

/-- A meaning ends in the next state, which for an abandoned instruction is the state after the reset. -/
def Access.finish : Access Unit → Host.Outcome State Fault Refusal
  | .ok _ s => .next s
  | .abort cause s => .next (takeReset cause s)

/-! ## Active background mode -/

/-- Entry to active background mode (60_exceptions R350); a TRACE1 in progress ends with it (47_bdc_commands R309). -/
def State.enterBackground (s : State) : State :=
  { s with bdcscr := { s.bdcscr with bdmact := true }, mode := .background, backgroundRequest := false, forcedRequest := false, tag := false, trace := false }

/-- Active background mode where it is enabled, else the illegal-opcode reset (60_exceptions R324, R356). -/
def State.stopForDebug (s : State) : State :=
  if s.bdcscr.enbdm then s.enterBackground else takeReset .illegalOpcode s

/-- Leaving active background mode for the instruction at PC (47_bdc_commands R308, R309). What the CPU fetches from here on is fetched afresh. 20_memory R86 says so of what the
debug controller wrote in active background mode; that a store of the CPU inside the prefetch window, or one of the debug controller in run mode, is seen as well, although no
change of flow stands between it and the fetch, is a DESIGN CHOICE of the model, and unsafe (log 13). -/
def State.leaveBackground (s : State) : State :=
  { s with bdcscr := { s.bdcscr with bdmact := false, ws := false }, mode := .run, afterSleep := false, stores := [] }

/-! ## Wait and stop -/

/-- Entering wait or stop mode (60_exceptions R340). Where a wake-up request is already asserted the CPU resumes at once (46_misc R264; log 16, log 37). Either way the
latest instruction is then a WAIT or STOP (log 26). -/
def State.sleep (m : Mode) (s : State) : State :=
  if s.wakeRequest then { s with afterSleep := true } else { s with mode := m, bdcscr := { s.bdcscr with ws := true }, afterSleep := true }

/-- The wake-up request ends wait or stop mode (60_exceptions R333). -/
def State.wakeUp (s : State) : State := { s with mode := .run, bdcscr := { s.bdcscr with ws := false } }

/-- The CPU is in wait or stop mode. -/
def State.asleep (s : State) : Bool := s.mode == .wait || s.mode == .stop

/-! ## Addresses -/

/-- The physical address of an 8-bit operand address: D[X] once, then the paging window once (20_memory R67, R70, R72; log 15). -/
def State.resolve (s : State) (a : Byte) : Addr :=
  let a1 := if a = ixAddr then s.x else a
  if 0xC0#8 ≤ a1 then s.pagesel ++ a1.extractLsb' 0 6 else a1.setWidth 14

/-- The address the hardware breakpoint compares (10_state R49; log 18). -/
def State.breakpointAddress (s : State) : Addr := s.bdcbkpt.setWidth 14

/-- An access of the CPU to this address asks for a forced breakpoint (60_exceptions R355). -/
def State.breakpointHit (s : State) (p : Addr) : Bool := s.bdcscr.bkpten && s.bdcscr.fts && p == s.breakpointAddress

/-! ## Accesses to a physical address -/

/-- The byte of an address that holds one: X, PAGESEL, RAM or flash (20_memory R74). -/
def State.byteAt (s : State) (p : Addr) : Byte :=
  if p = xPhys then s.x else if p = pageselPhys then s.pagesel else s.mem.read p.toNat

/-- The spec does not say what a read of the address gives: a peripheral register, or an address that nothing implements (log 11). -/
def State.unstated (s : State) (p : Addr) : Bool := s.dev.kindAt p == .io || s.dev.kindAt p == .vacant

/-- What a read of an address gives (20_memory R74): the byte there, or a free value. -/
def State.peek (s : State) (p : Addr) : Byte := if s.unstated p then Config.freeByte s.freeCount else s.byteAt p

/-- How many free values a read of an address draws. -/
def State.draws (s : State) (p : Addr) : Nat := (s.unstated p).toNat

/-- Keep in mind that a store went to `p`, and how far ahead of the next instruction that is (20_memory R86; log 13, log 38). -/
def State.noteStore (s : State) (p : Addr) : State := { s with stores := (p, (p - s.pc).toNat) :: s.stores }

/-- The effect of a store on the device (20_memory R64, R75): X, PAGESEL and RAM take the byte; flash keeps its byte (log 12), a peripheral register and an
unimplemented address have no state of the core (log 11). -/
def State.store (s : State) (p : Addr) (v : Byte) : State :=
  match s.dev.kindAt p with
  | .ram =>
    if p = xPhys then { s.noteStore p with x := v }
    else if p = pageselPhys then { s.noteStore p with pagesel := v }
    else { s.noteStore p with mem := s.mem.write p.toNat v }
  | _ => s

/-- An access of the CPU: a forced breakpoint is asked for where it hits (60_exceptions R355). -/
def State.touch (s : State) (p : Addr) : State := { s with forcedRequest := s.forcedRequest || s.breakpointHit p }

/-- The state after a read of the CPU: what the breakpoint logic saw, and the free values drawn (log 34). -/
def State.afterRead (s : State) (p : Addr) : State := { s.touch p with freeCount := s.freeCount + s.draws p }

/-- A data read of the CPU at a physical address (20_memory R74; 60_exceptions R325; log 15). -/
def physRead (p : Addr) (s : State) : Access Byte :=
  if s.dev.kindAt p = .illegal then .abort .illegalAddress s
  else .ok (s.peek p) (s.afterRead p)

/-- A data write of the CPU at a physical address (20_memory R75; 60_exceptions R325). -/
def physWrite (p : Addr) (v : Byte) (s : State) : Access Unit :=
  if s.dev.kindAt p = .illegal then .abort .illegalAddress s else .ok () ((s.touch p).store p v)

/-- MemRead of an operand address (20_memory R72). -/
def memRead (a : Byte) (s : State) : Access Byte := physRead (s.resolve a) s

/-- MemWrite of an operand address, resolved when the write is performed (20_memory R73). -/
def memWrite (a : Byte) (v : Byte) (s : State) : Access Unit := physWrite (s.resolve a) v s

/-! ## Fetching -/

/-- The CPU may hold an older byte of this address: a store went to it while it stood less than PREFETCH_DEPTH bytes ahead, and the flow has not changed since (20_memory R86; log 13). -/
def State.stale (s : State) (p : Addr) : Bool := s.stores.any fun e => e.1 == p && decide (e.2 < Config.prefetchDepth)

/-- A program-byte access: the physical address, no D[X], no window (20_memory R76; log 15). A byte that may be stale is a free value (log 13). -/
def fetch (p : Addr) (s : State) : Access Byte :=
  if s.dev.kindAt p = .illegal then .abort .illegalAddress s
  else if s.stale p then .ok (Config.freeByte s.freeCount) { s.touch p with freeCount := s.freeCount + 1 }
  else .ok (s.peek p) (s.afterRead p)

/-! ## Registers -/

/-- PC past the instruction's bytes: `next` of 00_scope R17 (10_state R24; modulo 2^14, log 14). -/
def State.advance (s : State) (len : Addr) : State := { s with pc := s.pc + len }

/-- A change of flow (10_state R24); what stands ahead of the CPU is fetched afresh from here on (20_memory R86). -/
def State.jumpTo (s : State) (target : Addr) : State := { s with pc := target, stores := [] }

/-- A conditional branch once PC is `next` (44_branch_loop R220). -/
def State.branchIf (s : State) (taken : Bool) (rr : Byte) : State := if taken then s.jumpTo (s.pc + offset rr) else s

end Sys2Proof.Machine
end

