-- ==== Sys2Proof/Machine/BdcAccess.lean ====
section
/-! DEFINITION. What the debug commands share: the byte of BDCSCR, the memory accesses of a command (47_bdc_commands R294, R295), and the commands that take their
cycles inside an instruction (20_memory R79). -/

namespace Sys2Proof.Machine

/-- BDCSCR as READ_STATUS returns it (10_state R41, R48): bits 3 and 0 read 0 (log 18). -/
def Bdcscr.toByte (r : Bdcscr) : Byte :=
  BitVec.ofBool r.enbdm ++ BitVec.ofBool r.bdmact ++ BitVec.ofBool r.bkpten ++ BitVec.ofBool r.fts ++ 0#1 ++ BitVec.ofBool r.ws ++ BitVec.ofBool r.wsf ++ 0#1

/-- WRITE_CONTROL to BDCSCR (10_state R48; 47_bdc_commands R286). -/
def Bdcscr.control (r : Bdcscr) (cc : Byte) : Bdcscr :=
  { r with enbdm := if r.bdmact then r.enbdm else cc.getLsbD 7, bkpten := cc.getLsbD 5, fts := cc.getLsbD 4 }

/-- The status byte SS (47_bdc_commands R277). -/
def State.status (s : State) : Byte := s.bdcscr.toByte

/-- WSF is the result of the most recent memory-access command (10_state R46; log 19). -/
def State.accessFailed (s : State) (failed : Bool) : State := { s with bdcscr := { s.bdcscr with wsf := failed } }

/-- The reply of a command, in the order of its bytes. -/
def State.answer (s : State) (bytes : List Byte) : State := { s with reply := bytes }

/-- The physical address of an AAAA field: bits 15 and 14 do not matter (20_memory R87; 47_bdc_commands R277). -/
def bdcAddress (aaaa : Word16) : Addr := aaaa.setWidth 14

/-- Unspecified reply bytes (47_bdc_commands R281; log 21). -/
def State.answerFree (n : Nat) (s : State) : State :=
  { s with reply := (List.range n).map fun k => Config.freeByte (s.freeCount + k), freeCount := s.freeCount + n }

/-- The opcode at PC is that of WAIT or STOP, or may be: what a fetch there gives is a free value (log 11, log 13). -/
def State.sleepsNext (s : State) : Bool := s.unstated s.pc || s.stale s.pc || s.byteAt s.pc == 0xAF#8 || s.byteAt s.pc == 0xAE#8

/-- In run mode the CPU stands right before a WAIT or STOP, or right after one (47_bdc_commands R294; log 26). -/
def State.besideSleep (s : State) : Bool := s.mode == .run && (s.afterSleep || s.sleepsNext)

/-- A memory access of a command fails: the CPU is in wait or stop, or the access stands beside a WAIT or STOP and the host's timing oracle declares it failed
(47_bdc_commands R294; log 26). -/
def State.bdcAccessFails (s : State) : Bool := s.asleep || (s.collision && s.besideSleep)

/-- The read of a READ_BYTE or a READ_BLOCK, with no breakpoint (47_bdc_commands R295; log 15, log 22). -/
def bdcPhysRead (p : Addr) (s : State) : Access Byte :=
  if s.dev.kindAt p = .illegal then .abort .illegalAddress s else .ok (s.peek p) { s with freeCount := s.freeCount + s.draws p }

/-- The write of a WRITE_BYTE or a WRITE_BLOCK, with no breakpoint (47_bdc_commands R295; log 15, log 22). -/
def bdcPhysWrite (p : Addr) (v : Byte) (s : State) : Access Unit :=
  if s.dev.kindAt p = .illegal then .abort .illegalAddress s else .ok () (s.store p v)

/-- BdcRead: RD and WSF (47_bdc_commands R294, R295). The byte of a failed read is a free value. -/
def bdcRead (p : Addr) (s : State) : Access Byte :=
  if s.bdcAccessFails then .ok (Config.freeByte s.freeCount) ({ s with freeCount := s.freeCount + 1 }.accessFailed true)
  else (bdcPhysRead p s).bind fun v t => .ok v (t.accessFailed false)

/-- BdcWrite: WSF, and the write unless it fails (47_bdc_commands R294, R295). -/
def bdcWrite (p : Addr) (v : Byte) (s : State) : Access Unit :=
  if s.bdcAccessFails then .ok () (s.accessFailed true) else (bdcPhysWrite p v s).bind fun _ t => .ok () (t.accessFailed false)

/-- READ_BYTE and READ_BYTE_WS: RD, with the status before it where `ws` (47_bdc_commands R287, R288). -/
def bdcReadByte (p : Addr) (ws : Bool) (s : State) : Access Unit :=
  (bdcRead p s).bind fun v t => .ok () (t.answer (if ws then [t.status, v] else [v]))

/-- WRITE_BYTE and WRITE_BYTE_WS: the status after the access where `ws` (47_bdc_commands R289, R290). -/
def bdcWriteByte (p : Addr) (v : Byte) (ws : Bool) (s : State) : Access Unit :=
  (bdcWrite p v s).bind fun _ t => .ok () (if ws then t.answer [t.status] else t)

/-- WRITE_CONTROL (47_bdc_commands R286). -/
def bdcControl (cc : Byte) (s : State) : State := { s with bdcscr := s.bdcscr.control cc }

/-- WRITE_BKPT (47_bdc_commands R292). -/
def bdcBreakpoint (w : Word16) (s : State) : State := { s with bdcbkpt := w }

/-- BACKGROUND: ignored with ENBDM 0 or in active background mode; from wait and stop it enters that mode at once, else it is pending (47_bdc_commands R293). -/
def State.requestBackground (s : State) : State :=
  if !s.bdcscr.enbdm || s.bdcscr.bdmact then s
  else if s.asleep then s.enterBackground
  else { s with backgroundRequest := true }

/-! ## Commands inside an instruction -/

/-- A command of the host while BDMACT is 0, as it is inside an instruction (47_bdc_commands R279, R283–R293): those that need active background mode change nothing, and a
reply they owe is unspecified (R281; log 21). A block command is here the whole command, to the soft-reset that ends it (R276; log 25). An instruction of the CPU is no command and
changes nothing. -/
def hostCommand (i : Instr) (s : State) : Access Unit :=
  match i with
  | .bdcReset => .abort .bdcReset s
  | .background => .ok () s.requestBackground
  | .readStatus => .ok () (s.answer [s.status])
  | .writeControl cc => .ok () (bdcControl cc s)
  | .readByte aaaa => bdcReadByte (bdcAddress aaaa) false s
  | .readByteWs aaaa => bdcReadByte (bdcAddress aaaa) true s
  | .writeByte aaaa wd => bdcWriteByte (bdcAddress aaaa) wd false s
  | .writeByteWs aaaa wd => bdcWriteByte (bdcAddress aaaa) wd true s
  | .readBkpt => .ok () (s.answer [hiByte s.bdcbkpt, loByte s.bdcbkpt])
  | .writeBkpt wbkp => .ok () (bdcBreakpoint wbkp s)
  | .sync => .ok () { s with serial := .idle, reply := [] }
  | .readA | .readBlock _ => .ok () (s.answerFree 1)
  | .readCcrPc | .readSpc => .ok () (s.answerFree 2)
  | _ => .ok () s

/-- The host fetches the reply that waits for it. -/
def State.delivered (s : State) : State := { s with reply := [], sent := s.sent ++ s.reply }

/-- Commands one after the other, each with its reply fetched before the next (47_bdc_commands R279; log 25). A reset ends them and the instruction (60_exceptions R321). -/
def performAll : List Instr → State → Access Unit
  | [], s => .ok () s
  | i :: is, s => (hostCommand i s).bind fun _ t => performAll is t.delivered

/-- Between the read and the write of an instruction: the commands that wait for a stolen cycle take theirs (20_memory R79; 47_bdc_commands R300; log 25). -/
def stolenCycle (s : State) : Access Unit := performAll s.stolen { s with stolen := [] }

end Sys2Proof.Machine
end

