-- ==== Sys2Proof/Machine/Operands.lean ====
section
/-! DEFINITION. The operand forms (spec 30_encoding R101–R108) as the shapes in which an instruction uses them: a read, a write, a read and a write of one location, a move
between two. `len` is the instruction's length; PC is past the instruction before its operation (10_state R24). -/

namespace Sys2Proof.Machine

/-- The direct-page address of a tiny operand (30_encoding R105). -/
def tnyAddress (a : BitVec 4) : Byte := a.setWidth 8

/-- The direct-page address of a short operand (30_encoding R106). -/
def srtAddress (a : BitVec 5) : Byte := a.setWidth 8

/-- An instruction with no access to data: inherent, immediate, relative or extended. -/
def inherent (len : Addr) (f : State → State) (s : State) : Host.Outcome State Fault Refusal := .next (f (s.advance len))

/-- An instruction that reads its operand: `r` in 70_reset_and_hazards R392. -/
def readOperand (len : Addr) (a : Byte) (f : Byte → State → State) (s : State) : Host.Outcome State Fault Refusal :=
  ((memRead a (s.advance len)).bind fun v t => .ok () (f v t)).finish

/-- An instruction that writes its operand without reading it: `w` in 70_reset_and_hazards R392. -/
def writeOperand (len : Addr) (a : Byte) (v : Byte) (f : State → State) (s : State) : Host.Outcome State Fault Refusal :=
  ((memWrite a v (s.advance len)).bind fun _ t => .ok () (f t)).finish

/-- An instruction that reads its operand and writes it back: `rfw` in 70_reset_and_hazards R392. Stolen cycles may fall between (20_memory R79). -/
def modifyOperand (len : Addr) (a : Byte) (g : Byte → Byte) (f : Byte → State → State) (s : State) : Host.Outcome State Fault Refusal :=
  ((memRead a (s.advance len)).bind fun v t =>
    (stolenCycle t).bind fun _ t1 =>
      (memWrite a (g v) t1).bind fun _ t2 => .ok () (f (g v) t2)).finish

/-- An instruction that reads one operand and writes another: `rpw` in 70_reset_and_hazards R392. Stolen cycles may fall between (20_memory R79). -/
def moveOperand (len : Addr) (src dst : Byte) (f : Byte → State → State) (s : State) : Host.Outcome State Fault Refusal :=
  ((memRead src (s.advance len)).bind fun v t =>
    (stolenCycle t).bind fun _ t1 =>
      (memWrite dst v t1).bind fun _ t2 => .ok () (f v t2)).finish

/-! What instructions do with the value. -/

/-- A takes a value, Z with it (40_data_movement R140; 42_logical R200). -/
def State.loadA (v : Byte) (s : State) : State := { s with a := v, z := zeroFlag v }

/-- Z from a value (00_scope R17 setZ). -/
def State.testZ (v : Byte) (s : State) : State := { s with z := zeroFlag v }

/-- A takes a result, C its carry, Z with it (41_math R170; 43_shift_rotate R210). -/
def State.resultA (r : Byte × Bool) (s : State) : State := { s with a := r.1, c := r.2, z := zeroFlag r.1 }

/-- C and Z from a result that is not kept (41_math R190). -/
def State.compare (r : Byte × Bool) (s : State) : State := { s with c := r.2, z := zeroFlag r.1 }

/-- C takes the tested bit, and the branch is taken where the bit is `want` (44_branch_loop R230, R231). -/
def State.branchOnBit (n : BitVec 3) (want : Bool) (rr : Byte) (m : Byte) (s : State) : State :=
  { s with c := testBit n m }.branchIf (testBit n m == want) rr

end Sys2Proof.Machine
end

