-- ==== Sys2Proof/Machine/Bdc.lean ====
section
/-! DEFINITION. The meanings of the debug commands (spec 47_bdc_commands). -/

namespace Sys2Proof.Machine

/-- A command that needs active background mode; elsewhere it changes nothing and its `n` reply bytes are unspecified (47_bdc_commands R281; log 21). -/
def inBackground (n : Nat) (f : State → State) (s : State) : Host.Outcome State Fault Refusal :=
  if s.bdcscr.bdmact then .next (f s) else if n = 0 then .next s else .next (s.answerFree n)

/-- One byte of a READ_BLOCK (47_bdc_commands R310; the address wraps, log 24; WSF, log 19). -/
def blockRead (p : Addr) (s : State) : Access Unit :=
  (bdcPhysRead p s).bind fun v t => .ok () { (t.accessFailed false).answer [v] with serial := .readBlock (p + 1) }

/-- One byte of a WRITE_BLOCK (47_bdc_commands R311; the address wraps, log 24; WSF, log 19). -/
def blockWrite (p : Addr) (v : Byte) (s : State) : Access Unit :=
  (bdcPhysWrite p v s).bind fun _ t => .ok () { t.accessFailed false with serial := .writeBlock (p + 1) }

/-- Z : C : PC (47_bdc_commands R314). -/
def State.ccrPc (s : State) : Word16 := BitVec.ofBool s.z ++ BitVec.ofBool s.c ++ s.pc

/-- BDC_RESET (47_bdc_commands R284). -/
def execBdcReset (s : State) : Host.Outcome State Fault Refusal := .next (takeReset .bdcReset s)

/-- BACKGROUND (47_bdc_commands R293). -/
def execBackground (s : State) : Host.Outcome State Fault Refusal := .next s.requestBackground

/-- READ_STATUS (47_bdc_commands R285). -/
def execReadStatus (s : State) : Host.Outcome State Fault Refusal := .next (s.answer [s.status])

/-- WRITE_CONTROL (47_bdc_commands R286). -/
def execWriteControl (cc : Byte) (s : State) : Host.Outcome State Fault Refusal := .next (bdcControl cc s)

/-- READ_BYTE (47_bdc_commands R287). -/
def execReadByte (aaaa : Word16) (s : State) : Host.Outcome State Fault Refusal := (bdcReadByte (bdcAddress aaaa) false s).finish

/-- READ_BYTE_WS (47_bdc_commands R288). -/
def execReadByteWs (aaaa : Word16) (s : State) : Host.Outcome State Fault Refusal := (bdcReadByte (bdcAddress aaaa) true s).finish

/-- WRITE_BYTE (47_bdc_commands R289). -/
def execWriteByte (aaaa : Word16) (wd : Byte) (s : State) : Host.Outcome State Fault Refusal := (bdcWriteByte (bdcAddress aaaa) wd false s).finish

/-- WRITE_BYTE_WS (47_bdc_commands R290). -/
def execWriteByteWs (aaaa : Word16) (wd : Byte) (s : State) : Host.Outcome State Fault Refusal := (bdcWriteByte (bdcAddress aaaa) wd true s).finish

/-- READ_BKPT (47_bdc_commands R291). -/
def execReadBkpt (s : State) : Host.Outcome State Fault Refusal := .next (s.answer [hiByte s.bdcbkpt, loByte s.bdcbkpt])

/-- WRITE_BKPT (47_bdc_commands R292). -/
def execWriteBkpt (wbkp : Word16) (s : State) : Host.Outcome State Fault Refusal := .next (bdcBreakpoint wbkp s)

/-- GO (47_bdc_commands R308). -/
def execGo (s : State) : Host.Outcome State Fault Refusal := inBackground 0 State.leaveBackground s

/-- TRACE1: the CPU is restarted for one instruction, which the step that completes the command runs (log 29) (47_bdc_commands R309). -/
def execTrace1 (s : State) : Host.Outcome State Fault Refusal := inBackground 0 (fun t => { t.leaveBackground with trace := true }) s

/-- READ_BLOCK: the first byte; the block is open from here on (47_bdc_commands R310). With BDMACT 0 it reads nothing: this RD and those to the soft-reset
are free values (R281; log 21). -/
def execReadBlock (aaaa : Word16) (s : State) : Host.Outcome State Fault Refusal :=
  if s.bdcscr.bdmact then (blockRead (bdcAddress aaaa) s).finish else .next { s.answerFree 1 with serial := .readBlockRefused }

/-- WRITE_BLOCK: the first byte; the block is open from here on (47_bdc_commands R311). With BDMACT 0 this WD and those to the soft-reset are
dropped (R281; log 21). -/
def execWriteBlock (aaaa : Word16) (wd : Byte) (s : State) : Host.Outcome State Fault Refusal :=
  if s.bdcscr.bdmact then (blockWrite (bdcAddress aaaa) wd s).finish else .next { s with serial := .writeBlockRefused }

/-- READ_A (47_bdc_commands R312). -/
def execReadA (s : State) : Host.Outcome State Fault Refusal := inBackground 1 (fun t => t.answer [t.a]) s

/-- WRITE_A (47_bdc_commands R313). -/
def execWriteA (wd : Byte) (s : State) : Host.Outcome State Fault Refusal := inBackground 0 (fun t => { t with a := wd }) s

/-- READ_CCR_PC (47_bdc_commands R314). -/
def execReadCcrPc (s : State) : Host.Outcome State Fault Refusal := inBackground 2 (fun t => t.answer [hiByte t.ccrPc, loByte t.ccrPc]) s

/-- WRITE_CCR_PC (47_bdc_commands R315). -/
def execWriteCcrPc (wd16 : Word16) (s : State) : Host.Outcome State Fault Refusal :=
  inBackground 0 (fun t => { t with z := wd16.getLsbD 15, c := wd16.getLsbD 14, pc := wd16.setWidth 14 }) s

/-- READ_SPC (47_bdc_commands R316). -/
def execReadSpc (s : State) : Host.Outcome State Fault Refusal :=
  inBackground 2 (fun t => t.answer [hiByte (t.spc.setWidth 16), loByte (t.spc.setWidth 16)]) s

/-- WRITE_SPC (47_bdc_commands R317). -/
def execWriteSpc (wd16 : Word16) (s : State) : Host.Outcome State Fault Refusal := inBackground 0 (fun t => { t with spc := wd16.setWidth 14 }) s

/-- SYNC: what was being received is abandoned (47_bdc_commands R283). -/
def execSync (s : State) : Host.Outcome State Fault Refusal := .next { s with serial := .idle, reply := [] }

end Sys2Proof.Machine
end

