-- ==== Sys2Proof/Machine/Branch.lean ====
section
/-! DEFINITION. The meanings of the jump, branch and loop control instructions (spec 44_branch_loop). -/

namespace Sys2Proof.Machine

/-- CBEQ with an operand: Z and C stay (44_branch_loop R233, R234). -/
def State.branchIfA (rr : Byte) (m : Byte) (s : State) : State := s.branchIf (s.a == m) rr

/-- DBNZ with its result: Z and C stay (44_branch_loop R235, R237). -/
def State.branchIfNonzero (rr : Byte) (r : Byte) (s : State) : State := s.branchIf (r != 0#8) rr

/-- BRSET n,dd,rr (44_branch_loop R230). -/
def execBrset (n : BitVec 3) (dd : Byte) (rr : Byte) (s : State) : Host.Outcome State Fault Refusal := readOperand 3 dd (State.branchOnBit n true rr) s

/-- BRCLR n,dd,rr (44_branch_loop R231). -/
def execBrclr (n : BitVec 3) (dd : Byte) (rr : Byte) (s : State) : Host.Outcome State Fault Refusal :=
  readOperand 3 dd (State.branchOnBit n false rr) s

/-- BRA (44_branch_loop R222). -/
def execBra (rr : Byte) (s : State) : Host.Outcome State Fault Refusal := inherent 2 (State.branchIf · true rr) s

/-- CBEQ dd,rr (44_branch_loop R233). -/
def execCbeqDir (dd : Byte) (rr : Byte) (s : State) : Host.Outcome State Fault Refusal := readOperand 3 dd (State.branchIfA rr) s

/-- BCC (44_branch_loop R223). -/
def execBcc (rr : Byte) (s : State) : Host.Outcome State Fault Refusal := inherent 2 (fun t => t.branchIf (!t.c) rr) s

/-- BCS (44_branch_loop R224). -/
def execBcs (rr : Byte) (s : State) : Host.Outcome State Fault Refusal := inherent 2 (fun t => t.branchIf t.c rr) s

/-- BNE (44_branch_loop R225). -/
def execBne (rr : Byte) (s : State) : Host.Outcome State Fault Refusal := inherent 2 (fun t => t.branchIf (!t.z) rr) s

/-- BEQ (44_branch_loop R226). -/
def execBeq (rr : Byte) (s : State) : Host.Outcome State Fault Refusal := inherent 2 (fun t => t.branchIf t.z rr) s

/-- DBNZ dd,rr (44_branch_loop R235). -/
def execDbnzDir (dd : Byte) (rr : Byte) (s : State) : Host.Outcome State Fault Refusal := modifyOperand 3 dd (· - 1) (State.branchIfNonzero rr) s

/-- CBEQA #ii,rr (44_branch_loop R234). -/
def execCbeqa (ii : Byte) (rr : Byte) (s : State) : Host.Outcome State Fault Refusal := inherent 3 (State.branchIfA rr ii) s

/-- DBNZA rr (44_branch_loop R237). -/
def execDbnza (rr : Byte) (s : State) : Host.Outcome State Fault Refusal :=
  inherent 2 (fun t => { t with a := t.a - 1 }.branchIfNonzero rr (t.a - 1)) s

/-- JMP (44_branch_loop R221). -/
def execJmp (ea : Addr) (s : State) : Host.Outcome State Fault Refusal := inherent 3 (State.jumpTo · ea) s

/-- BHS, the same bytes as BCC (44_branch_loop R227). -/
def execBhs (rr : Byte) (s : State) : Host.Outcome State Fault Refusal := inherent 2 (fun t => t.branchIf (!t.c) rr) s

/-- BLO, the same bytes as BCS (44_branch_loop R228). -/
def execBlo (rr : Byte) (s : State) : Host.Outcome State Fault Refusal := inherent 2 (fun t => t.branchIf t.c rr) s

/-- BRN, BRA with offset zero (44_branch_loop R229). -/
def execBrn (s : State) : Host.Outcome State Fault Refusal := inherent 2 (State.branchIf · true 0#8) s

/-- BRSET n,D[X],rr (44_branch_loop R232). -/
def execBrsetIx (n : BitVec 3) (rr : Byte) (s : State) : Host.Outcome State Fault Refusal := readOperand 3 ixAddr (State.branchOnBit n true rr) s

/-- BRSET n,X,rr (44_branch_loop R232). -/
def execBrsetX (n : BitVec 3) (rr : Byte) (s : State) : Host.Outcome State Fault Refusal := readOperand 3 xAddr (State.branchOnBit n true rr) s

/-- BRCLR n,D[X],rr (44_branch_loop R232). -/
def execBrclrIx (n : BitVec 3) (rr : Byte) (s : State) : Host.Outcome State Fault Refusal := readOperand 3 ixAddr (State.branchOnBit n false rr) s

/-- BRCLR n,X,rr (44_branch_loop R232). -/
def execBrclrX (n : BitVec 3) (rr : Byte) (s : State) : Host.Outcome State Fault Refusal := readOperand 3 xAddr (State.branchOnBit n false rr) s

/-- CBEQ ,X,rr (44_branch_loop R236). -/
def execCbeqIx (rr : Byte) (s : State) : Host.Outcome State Fault Refusal := readOperand 3 ixAddr (State.branchIfA rr) s

/-- CBEQ X,rr (44_branch_loop R236). -/
def execCbeqX (rr : Byte) (s : State) : Host.Outcome State Fault Refusal := readOperand 3 xAddr (State.branchIfA rr) s

/-- DBNZ ,X,rr (44_branch_loop R238). -/
def execDbnzIx (rr : Byte) (s : State) : Host.Outcome State Fault Refusal := modifyOperand 3 ixAddr (· - 1) (State.branchIfNonzero rr) s

/-- DBNZX rr (44_branch_loop R238). -/
def execDbnzX (rr : Byte) (s : State) : Host.Outcome State Fault Refusal := modifyOperand 3 xAddr (· - 1) (State.branchIfNonzero rr) s

end Sys2Proof.Machine
end

