-- ==== Sys2Proof/Machine/DataMovement.lean ====
section
/-! DEFINITION. The meanings of the data movement instructions (spec 40_data_movement). -/

namespace Sys2Proof.Machine

/-- BSET n,dd (40_data_movement R148). -/
def execBset (n : BitVec 3) (dd : Byte) (s : State) : Host.Outcome State Fault Refusal := modifyOperand 2 dd (setBit n) (fun _ t => t) s

/-- BCLR n,dd (40_data_movement R149). -/
def execBclr (n : BitVec 3) (dd : Byte) (s : State) : Host.Outcome State Fault Refusal := modifyOperand 2 dd (clearBit n) (fun _ t => t) s

/-- MOV #ii,dd (40_data_movement R146). -/
def execMovImm (ii : Byte) (dd : Byte) (s : State) : Host.Outcome State Fault Refusal := writeOperand 3 dd ii (State.testZ ii) s

/-- MOV ss,dd (40_data_movement R147). -/
def execMovDir (ss : Byte) (dd : Byte) (s : State) : Host.Outcome State Fault Refusal := moveOperand 3 ss dd State.testZ s

/-- LDA #ii (40_data_movement R141). -/
def execLdaImm (ii : Byte) (s : State) : Host.Outcome State Fault Refusal := inherent 2 (State.loadA ii) s

/-- LDA dd (40_data_movement R142). -/
def execLdaDir (dd : Byte) (s : State) : Host.Outcome State Fault Refusal := readOperand 2 dd State.loadA s

/-- STA dd (40_data_movement R144). -/
def execStaDir (dd : Byte) (s : State) : Host.Outcome State Fault Refusal := writeOperand 2 dd s.a (State.testZ s.a) s

/-- LDA, short (40_data_movement R143). -/
def execLdaSrt (a : BitVec 5) (s : State) : Host.Outcome State Fault Refusal := readOperand 1 (srtAddress a) State.loadA s

/-- STA, short (40_data_movement R145). -/
def execStaSrt (a : BitVec 5) (s : State) : Host.Outcome State Fault Refusal := writeOperand 1 (srtAddress a) s.a (State.testZ s.a) s

/-- BSET n,D[X] (40_data_movement R156). -/
def execBsetIx (n : BitVec 3) (s : State) : Host.Outcome State Fault Refusal := modifyOperand 2 ixAddr (setBit n) (fun _ t => t) s

/-- BSET n,X (40_data_movement R156). -/
def execBsetX (n : BitVec 3) (s : State) : Host.Outcome State Fault Refusal := modifyOperand 2 xAddr (setBit n) (fun _ t => t) s

/-- BCLR n,D[X] (40_data_movement R156). -/
def execBclrIx (n : BitVec 3) (s : State) : Host.Outcome State Fault Refusal := modifyOperand 2 ixAddr (clearBit n) (fun _ t => t) s

/-- BCLR n,X (40_data_movement R156). -/
def execBclrX (n : BitVec 3) (s : State) : Host.Outcome State Fault Refusal := modifyOperand 2 xAddr (clearBit n) (fun _ t => t) s

/-- LDA ,X (40_data_movement R154). -/
def execLdaIx (s : State) : Host.Outcome State Fault Refusal := readOperand 1 ixAddr State.loadA s

/-- STA ,X (40_data_movement R154). -/
def execStaIx (s : State) : Host.Outcome State Fault Refusal := writeOperand 1 ixAddr s.a (State.testZ s.a) s

/-- STA X, the same byte as TAX (40_data_movement R154). -/
def execStaX (s : State) : Host.Outcome State Fault Refusal := writeOperand 1 xAddr s.a (State.testZ s.a) s

/-- TAX, the short STA to X (40_data_movement R152). -/
def execTax (s : State) : Host.Outcome State Fault Refusal := writeOperand 1 xAddr s.a (State.testZ s.a) s

/-- TXA, the short LDA of X (40_data_movement R153). -/
def execTxa (s : State) : Host.Outcome State Fault Refusal := readOperand 1 xAddr State.loadA s

/-- LDX #ii, MOV #ii to X (40_data_movement R150). -/
def execLdxImm (ii : Byte) (s : State) : Host.Outcome State Fault Refusal := writeOperand 3 xAddr ii (State.testZ ii) s

/-- LDX dd, MOV of dd to X (40_data_movement R150). -/
def execLdxDir (dd : Byte) (s : State) : Host.Outcome State Fault Refusal := moveOperand 3 dd xAddr State.testZ s

/-- LDX ,X, MOV of D[X] to X (40_data_movement R150). -/
def execLdxIx (s : State) : Host.Outcome State Fault Refusal := moveOperand 3 ixAddr xAddr State.testZ s

/-- STX dd, MOV of X to dd (40_data_movement R151). -/
def execStxDir (dd : Byte) (s : State) : Host.Outcome State Fault Refusal := moveOperand 3 xAddr dd State.testZ s

/-- MOV D[X],dd (40_data_movement R155). -/
def execMovIxDir (dd : Byte) (s : State) : Host.Outcome State Fault Refusal := moveOperand 3 ixAddr dd State.testZ s

/-- MOV ss,D[X] (40_data_movement R155). -/
def execMovDirIx (ss : Byte) (s : State) : Host.Outcome State Fault Refusal := moveOperand 3 ss ixAddr State.testZ s

/-- MOV #ii,D[X] (40_data_movement R155). -/
def execMovImmIx (ii : Byte) (s : State) : Host.Outcome State Fault Refusal := writeOperand 3 ixAddr ii (State.testZ ii) s

end Sys2Proof.Machine
end

