-- ==== Sys2Proof/Machine/Illegal.lean ====
section
/-! DEFINITION. The meanings of the eleven opcodes with no instruction: each takes the illegal-opcode reset (spec 30_encoding R114, 60_exceptions R323). -/

namespace Sys2Proof.Machine

/-- Opcode $32 (60_exceptions R323). -/
def execIllegal32 (s : State) : Host.Outcome State Fault Refusal := .next (takeReset .illegalOpcode s)

/-- Opcode $33 (60_exceptions R323). -/
def execIllegal33 (s : State) : Host.Outcome State Fault Refusal := .next (takeReset .illegalOpcode s)

/-- Opcode $3D (60_exceptions R323). -/
def execIllegal3D (s : State) : Host.Outcome State Fault Refusal := .next (takeReset .illegalOpcode s)

/-- Opcode $40 (60_exceptions R323). -/
def execIllegal40 (s : State) : Host.Outcome State Fault Refusal := .next (takeReset .illegalOpcode s)

/-- Opcode $47 (60_exceptions R323). -/
def execIllegal47 (s : State) : Host.Outcome State Fault Refusal := .next (takeReset .illegalOpcode s)

/-- Opcode $4D (60_exceptions R323). -/
def execIllegal4D (s : State) : Host.Outcome State Fault Refusal := .next (takeReset .illegalOpcode s)

/-- Opcode $A3 (60_exceptions R323). -/
def execIllegalA3 (s : State) : Host.Outcome State Fault Refusal := .next (takeReset .illegalOpcode s)

/-- Opcode $A5 (60_exceptions R323). -/
def execIllegalA5 (s : State) : Host.Outcome State Fault Refusal := .next (takeReset .illegalOpcode s)

/-- Opcode $A7 (60_exceptions R323). -/
def execIllegalA7 (s : State) : Host.Outcome State Fault Refusal := .next (takeReset .illegalOpcode s)

/-- Opcode $B3 (60_exceptions R323). -/
def execIllegalB3 (s : State) : Host.Outcome State Fault Refusal := .next (takeReset .illegalOpcode s)

/-- Opcode $B5 (60_exceptions R323). -/
def execIllegalB5 (s : State) : Host.Outcome State Fault Refusal := .next (takeReset .illegalOpcode s)

end Sys2Proof.Machine
end

