-- ==== Sys2Proof/Machine/Logical.lean ====
section
/-! DEFINITION. The meanings of the logical operation instructions (spec 42_logical). -/

namespace Sys2Proof.Machine

/-- AND with an operand (42_logical R201, R202). -/
def State.and (m : Byte) (s : State) : State := s.loadA (s.a &&& m)

/-- ORA with an operand (42_logical R203, R204). -/
def State.ora (m : Byte) (s : State) : State := s.loadA (s.a ||| m)

/-- EOR with an operand (42_logical R205, R206). -/
def State.eor (m : Byte) (s : State) : State := s.loadA (s.a ^^^ m)

/-- COMA (42_logical R207). -/
def execComa (s : State) : Host.Outcome State Fault Refusal := inherent 1 (fun t => t.resultA (~~~t.a, true)) s

/-- AND #ii (42_logical R201). -/
def execAndImm (ii : Byte) (s : State) : Host.Outcome State Fault Refusal := inherent 2 (State.and ii) s

/-- EOR #ii (42_logical R205). -/
def execEorImm (ii : Byte) (s : State) : Host.Outcome State Fault Refusal := inherent 2 (State.eor ii) s

/-- ORA #ii (42_logical R203). -/
def execOraImm (ii : Byte) (s : State) : Host.Outcome State Fault Refusal := inherent 2 (State.ora ii) s

/-- AND dd (42_logical R202). -/
def execAndDir (dd : Byte) (s : State) : Host.Outcome State Fault Refusal := readOperand 2 dd State.and s

/-- EOR dd (42_logical R206). -/
def execEorDir (dd : Byte) (s : State) : Host.Outcome State Fault Refusal := readOperand 2 dd State.eor s

/-- ORA dd (42_logical R204). -/
def execOraDir (dd : Byte) (s : State) : Host.Outcome State Fault Refusal := readOperand 2 dd State.ora s

/-- AND ,X (42_logical R208). -/
def execAndIx (s : State) : Host.Outcome State Fault Refusal := readOperand 2 ixAddr State.and s

/-- AND X (42_logical R208). -/
def execAndX (s : State) : Host.Outcome State Fault Refusal := readOperand 2 xAddr State.and s

/-- ORA ,X (42_logical R208). -/
def execOraIx (s : State) : Host.Outcome State Fault Refusal := readOperand 2 ixAddr State.ora s

/-- ORA X (42_logical R208). -/
def execOraX (s : State) : Host.Outcome State Fault Refusal := readOperand 2 xAddr State.ora s

/-- EOR ,X (42_logical R208). -/
def execEorIx (s : State) : Host.Outcome State Fault Refusal := readOperand 2 ixAddr State.eor s

/-- EOR X (42_logical R208). -/
def execEorX (s : State) : Host.Outcome State Fault Refusal := readOperand 2 xAddr State.eor s

end Sys2Proof.Machine
end

