-- ==== Sys2Proof/Machine/Math.lean ====
section
/-! DEFINITION. The meanings of the math instructions (spec 41_math). -/

namespace Sys2Proof.Machine

/-- ADC with an operand (41_math R171, R172). -/
def State.adc (m : Byte) (s : State) : State := s.resultA (add8 s.a m s.c)

/-- ADD with an operand (41_math R173–R175). -/
def State.add (m : Byte) (s : State) : State := s.resultA (add8 s.a m false)

/-- SBC with an operand (41_math R176, R177). -/
def State.sbc (m : Byte) (s : State) : State := s.resultA (sub8 s.a m s.c)

/-- SUB with an operand (41_math R178–R180). -/
def State.sub (m : Byte) (s : State) : State := s.resultA (sub8 s.a m false)

/-- CMP with an operand (41_math R190, R191). -/
def State.cmp (m : Byte) (s : State) : State := s.compare (sub8 s.a m false)

/-- INC, tiny (41_math R182). -/
def execIncTny (a : BitVec 4) (s : State) : Host.Outcome State Fault Refusal := modifyOperand 1 (tnyAddress a) (· + 1) State.testZ s

/-- DEC dd (41_math R184). -/
def execDecDir (dd : Byte) (s : State) : Host.Outcome State Fault Refusal := modifyOperand 2 dd (· - 1) State.testZ s

/-- INC dd (41_math R181). -/
def execIncDir (dd : Byte) (s : State) : Host.Outcome State Fault Refusal := modifyOperand 2 dd (· + 1) State.testZ s

/-- CLR dd (41_math R187). -/
def execClrDir (dd : Byte) (s : State) : Host.Outcome State Fault Refusal := writeOperand 2 dd 0#8 (State.testZ 0#8) s

/-- DECA (41_math R186). -/
def execDeca (s : State) : Host.Outcome State Fault Refusal := inherent 1 (fun t => t.loadA (t.a - 1)) s

/-- INCA (41_math R183). -/
def execInca (s : State) : Host.Outcome State Fault Refusal := inherent 1 (fun t => t.loadA (t.a + 1)) s

/-- CLRA (41_math R189). -/
def execClra (s : State) : Host.Outcome State Fault Refusal := inherent 1 (State.loadA 0#8) s

/-- DEC, tiny (41_math R185). -/
def execDecTny (a : BitVec 4) (s : State) : Host.Outcome State Fault Refusal := modifyOperand 1 (tnyAddress a) (· - 1) State.testZ s

/-- ADD, tiny (41_math R175). -/
def execAddTny (a : BitVec 4) (s : State) : Host.Outcome State Fault Refusal := readOperand 1 (tnyAddress a) State.add s

/-- SUB, tiny (41_math R180). -/
def execSubTny (a : BitVec 4) (s : State) : Host.Outcome State Fault Refusal := readOperand 1 (tnyAddress a) State.sub s

/-- CLR, short (41_math R188). -/
def execClrSrt (a : BitVec 5) (s : State) : Host.Outcome State Fault Refusal := writeOperand 1 (srtAddress a) 0#8 (State.testZ 0#8) s

/-- SUB #ii (41_math R178). -/
def execSubImm (ii : Byte) (s : State) : Host.Outcome State Fault Refusal := inherent 2 (State.sub ii) s

/-- CMP #ii (41_math R190). -/
def execCmpImm (ii : Byte) (s : State) : Host.Outcome State Fault Refusal := inherent 2 (State.cmp ii) s

/-- SBC #ii (41_math R176). -/
def execSbcImm (ii : Byte) (s : State) : Host.Outcome State Fault Refusal := inherent 2 (State.sbc ii) s

/-- ADC #ii (41_math R171). -/
def execAdcImm (ii : Byte) (s : State) : Host.Outcome State Fault Refusal := inherent 2 (State.adc ii) s

/-- ADD #ii (41_math R173). -/
def execAddImm (ii : Byte) (s : State) : Host.Outcome State Fault Refusal := inherent 2 (State.add ii) s

/-- SUB dd (41_math R179). -/
def execSubDir (dd : Byte) (s : State) : Host.Outcome State Fault Refusal := readOperand 2 dd State.sub s

/-- CMP dd (41_math R191). -/
def execCmpDir (dd : Byte) (s : State) : Host.Outcome State Fault Refusal := readOperand 2 dd State.cmp s

/-- SBC dd (41_math R177). -/
def execSbcDir (dd : Byte) (s : State) : Host.Outcome State Fault Refusal := readOperand 2 dd State.sbc s

/-- ADC dd (41_math R172). -/
def execAdcDir (dd : Byte) (s : State) : Host.Outcome State Fault Refusal := readOperand 2 dd State.adc s

/-- ADD dd (41_math R174). -/
def execAddDir (dd : Byte) (s : State) : Host.Outcome State Fault Refusal := readOperand 2 dd State.add s

/-- ADC ,X (41_math R192). -/
def execAdcIx (s : State) : Host.Outcome State Fault Refusal := readOperand 2 ixAddr State.adc s

/-- ADC X (41_math R192). -/
def execAdcX (s : State) : Host.Outcome State Fault Refusal := readOperand 2 xAddr State.adc s

/-- SBC ,X (41_math R192). -/
def execSbcIx (s : State) : Host.Outcome State Fault Refusal := readOperand 2 ixAddr State.sbc s

/-- SBC X (41_math R192). -/
def execSbcX (s : State) : Host.Outcome State Fault Refusal := readOperand 2 xAddr State.sbc s

/-- CMP ,X (41_math R194). -/
def execCmpIx (s : State) : Host.Outcome State Fault Refusal := readOperand 2 ixAddr State.cmp s

/-- CMP X (41_math R194). -/
def execCmpX (s : State) : Host.Outcome State Fault Refusal := readOperand 2 xAddr State.cmp s

/-- ADD ,X (41_math R192). -/
def execAddIx (s : State) : Host.Outcome State Fault Refusal := readOperand 1 ixAddr State.add s

/-- ADD X (41_math R192). -/
def execAddX (s : State) : Host.Outcome State Fault Refusal := readOperand 1 xAddr State.add s

/-- SUB ,X (41_math R192). -/
def execSubIx (s : State) : Host.Outcome State Fault Refusal := readOperand 1 ixAddr State.sub s

/-- SUB X (41_math R192). -/
def execSubX (s : State) : Host.Outcome State Fault Refusal := readOperand 1 xAddr State.sub s

/-- INC ,X (41_math R193). -/
def execIncIx (s : State) : Host.Outcome State Fault Refusal := modifyOperand 1 ixAddr (· + 1) State.testZ s

/-- INCX (41_math R193). -/
def execIncX (s : State) : Host.Outcome State Fault Refusal := modifyOperand 1 xAddr (· + 1) State.testZ s

/-- DEC ,X (41_math R193). -/
def execDecIx (s : State) : Host.Outcome State Fault Refusal := modifyOperand 1 ixAddr (· - 1) State.testZ s

/-- DECX (41_math R193). -/
def execDecX (s : State) : Host.Outcome State Fault Refusal := modifyOperand 1 xAddr (· - 1) State.testZ s

/-- CLR ,X (41_math R193). -/
def execClrIx (s : State) : Host.Outcome State Fault Refusal := writeOperand 1 ixAddr 0#8 (State.testZ 0#8) s

/-- CLRX (41_math R193). -/
def execClrX (s : State) : Host.Outcome State Fault Refusal := writeOperand 1 xAddr 0#8 (State.testZ 0#8) s

/-- TST dd, MOV of dd onto itself (41_math R196). -/
def execTstDir (dd : Byte) (s : State) : Host.Outcome State Fault Refusal := moveOperand 3 dd dd State.testZ s

/-- TST ,X, MOV of D[X] onto itself (41_math R196). -/
def execTstIx (s : State) : Host.Outcome State Fault Refusal := moveOperand 3 ixAddr ixAddr State.testZ s

/-- TSTX, MOV of X onto itself (41_math R196). -/
def execTstX (s : State) : Host.Outcome State Fault Refusal := moveOperand 3 xAddr xAddr State.testZ s

/-- TSTA, ORA #$00 (41_math R195). -/
def execTsta (s : State) : Host.Outcome State Fault Refusal := inherent 2 (fun t => t.loadA (t.a ||| 0#8)) s

end Sys2Proof.Machine
end

