-- ==== Sys2Proof/Machine/Misc.lean ====
section
/-! DEFINITION. The meanings of the miscellaneous instructions (spec 46_misc). -/

namespace Sys2Proof.Machine

/-- CLC (46_misc R262). -/
def execClc (s : State) : Host.Outcome State Fault Refusal := inherent 1 (fun t => { t with c := false }) s

/-- SEC (46_misc R261). -/
def execSec (s : State) : Host.Outcome State Fault Refusal := inherent 1 (fun t => { t with c := true }) s

/-- NOP (46_misc R260). -/
def execNop (s : State) : Host.Outcome State Fault Refusal := inherent 1 (fun t => t) s

/-- STOP (46_misc R265). -/
def execStop (s : State) : Host.Outcome State Fault Refusal := inherent 1 (State.sleep .stop) s

/-- WAIT (46_misc R264). -/
def execWait (s : State) : Host.Outcome State Fault Refusal := inherent 1 (State.sleep .wait) s

/-- BGND (with ENBDM 0 the illegal-opcode reset, 60_exceptions R324) (46_misc R263). -/
def execBgnd (s : State) : Host.Outcome State Fault Refusal := inherent 1 State.stopForDebug s

end Sys2Proof.Machine
end

