-- ==== Sys2Proof/Machine/Shift.lean ====
section
/-! DEFINITION. The meanings of the shift and rotate instructions (spec 43_shift_rotate). -/

namespace Sys2Proof.Machine

/-- LSRA (43_shift_rotate R212). -/
def execLsra (s : State) : Host.Outcome State Fault Refusal := inherent 1 (fun t => t.resultA (shiftRight8 t.a false)) s

/-- RORA (43_shift_rotate R214). -/
def execRora (s : State) : Host.Outcome State Fault Refusal := inherent 1 (fun t => t.resultA (shiftRight8 t.a t.c)) s

/-- LSLA (43_shift_rotate R211). -/
def execLsla (s : State) : Host.Outcome State Fault Refusal := inherent 1 (fun t => t.resultA (shiftLeft8 t.a false)) s

/-- ROLA (43_shift_rotate R213). -/
def execRola (s : State) : Host.Outcome State Fault Refusal := inherent 1 (fun t => t.resultA (shiftLeft8 t.a t.c)) s

/-- ASLA, the same byte as LSLA (43_shift_rotate R215). -/
def execAsla (s : State) : Host.Outcome State Fault Refusal := inherent 1 (fun t => t.resultA (shiftLeft8 t.a false)) s

end Sys2Proof.Machine
end

