-- ==== Sys2Proof/Machine/Subroutine.lean ====
section
/-! DEFINITION. The meanings of the subroutine instructions (spec 45_subroutine). -/

namespace Sys2Proof.Machine

/-- SPCH with two zero bits before it (45_subroutine R253). -/
def spcHigh (spc : Addr) : Byte := (spc.extractLsb' 8 6).setWidth 8

/-- SPC with SPCH from bits 5:0 of a byte (45_subroutine R253). -/
def withSpcHigh (spc : Addr) (v : Byte) : Addr := v.extractLsb' 0 6 ++ spc.extractLsb' 0 8

/-- SPCL (45_subroutine R254). -/
def spcLow (spc : Addr) : Byte := spc.extractLsb' 0 8

/-- SPC with SPCL from a byte (45_subroutine R254). -/
def withSpcLow (spc : Addr) (v : Byte) : Addr := spc.extractLsb' 8 6 ++ v

/-- SLA (45_subroutine R254). -/
def execSla (s : State) : Host.Outcome State Fault Refusal := inherent 1 (fun t => { t with a := spcLow t.spc, spc := withSpcLow t.spc t.a }) s

/-- SHA (45_subroutine R253). -/
def execSha (s : State) : Host.Outcome State Fault Refusal := inherent 1 (fun t => { t with a := spcHigh t.spc, spc := withSpcHigh t.spc t.a }) s

/-- BSR (45_subroutine R250). -/
def execBsr (rr : Byte) (s : State) : Host.Outcome State Fault Refusal := inherent 2 (fun t => { t with spc := t.pc }.jumpTo (t.pc + offset rr)) s

/-- JSR (45_subroutine R251). -/
def execJsr (ea : Addr) (s : State) : Host.Outcome State Fault Refusal := inherent 3 (fun t => { t with spc := t.pc }.jumpTo ea) s

/-- RTS (45_subroutine R252). -/
def execRts (s : State) : Host.Outcome State Fault Refusal := .next (s.jumpTo s.spc)

end Sys2Proof.Machine
end

