-- ==== Sys2Proof/Machine/Dispatch.lean ====
section
/-! DEFINITION. Every instruction to its meaning. -/

namespace Sys2Proof.Machine

def exec (i : Instr) (s : State) : Host.Outcome State Fault Refusal :=
  match i with
  | .brset n dd rr => Sys2Proof.Machine.execBrset n dd rr s
  | .brclr n dd rr => Sys2Proof.Machine.execBrclr n dd rr s
  | .bset n dd => Sys2Proof.Machine.execBset n dd s
  | .bclr n dd => Sys2Proof.Machine.execBclr n dd s
  | .incTny a => Sys2Proof.Machine.execIncTny a s
  | .bra rr => Sys2Proof.Machine.execBra rr s
  | .cbeqDir dd rr => Sys2Proof.Machine.execCbeqDir dd rr s
  | .bcc rr => Sys2Proof.Machine.execBcc rr s
  | .bcs rr => Sys2Proof.Machine.execBcs rr s
  | .bne rr => Sys2Proof.Machine.execBne rr s
  | .beq rr => Sys2Proof.Machine.execBeq rr s
  | .clc => Sys2Proof.Machine.execClc s
  | .sec => Sys2Proof.Machine.execSec s
  | .decDir dd => Sys2Proof.Machine.execDecDir dd s
  | .dbnzDir dd rr => Sys2Proof.Machine.execDbnzDir dd rr s
  | .incDir dd => Sys2Proof.Machine.execIncDir dd s
  | .movImm ii dd => Sys2Proof.Machine.execMovImm ii dd s
  | .clrDir dd => Sys2Proof.Machine.execClrDir dd s
  | .cbeqa ii rr => Sys2Proof.Machine.execCbeqa ii rr s
  | .sla => Sys2Proof.Machine.execSla s
  | .coma => Sys2Proof.Machine.execComa s
  | .lsra => Sys2Proof.Machine.execLsra s
  | .sha => Sys2Proof.Machine.execSha s
  | .rora => Sys2Proof.Machine.execRora s
  | .lsla => Sys2Proof.Machine.execLsla s
  | .rola => Sys2Proof.Machine.execRola s
  | .deca => Sys2Proof.Machine.execDeca s
  | .dbnza rr => Sys2Proof.Machine.execDbnza rr s
  | .inca => Sys2Proof.Machine.execInca s
  | .movDir ss dd => Sys2Proof.Machine.execMovDir ss dd s
  | .clra => Sys2Proof.Machine.execClra s
  | .decTny a => Sys2Proof.Machine.execDecTny a s
  | .addTny a => Sys2Proof.Machine.execAddTny a s
  | .subTny a => Sys2Proof.Machine.execSubTny a s
  | .clrSrt a => Sys2Proof.Machine.execClrSrt a s
  | .subImm ii => Sys2Proof.Machine.execSubImm ii s
  | .cmpImm ii => Sys2Proof.Machine.execCmpImm ii s
  | .sbcImm ii => Sys2Proof.Machine.execSbcImm ii s
  | .andImm ii => Sys2Proof.Machine.execAndImm ii s
  | .ldaImm ii => Sys2Proof.Machine.execLdaImm ii s
  | .eorImm ii => Sys2Proof.Machine.execEorImm ii s
  | .adcImm ii => Sys2Proof.Machine.execAdcImm ii s
  | .oraImm ii => Sys2Proof.Machine.execOraImm ii s
  | .addImm ii => Sys2Proof.Machine.execAddImm ii s
  | .nop => Sys2Proof.Machine.execNop s
  | .bsr rr => Sys2Proof.Machine.execBsr rr s
  | .stop => Sys2Proof.Machine.execStop s
  | .wait => Sys2Proof.Machine.execWait s
  | .subDir dd => Sys2Proof.Machine.execSubDir dd s
  | .cmpDir dd => Sys2Proof.Machine.execCmpDir dd s
  | .sbcDir dd => Sys2Proof.Machine.execSbcDir dd s
  | .andDir dd => Sys2Proof.Machine.execAndDir dd s
  | .ldaDir dd => Sys2Proof.Machine.execLdaDir dd s
  | .staDir dd => Sys2Proof.Machine.execStaDir dd s
  | .eorDir dd => Sys2Proof.Machine.execEorDir dd s
  | .adcDir dd => Sys2Proof.Machine.execAdcDir dd s
  | .oraDir dd => Sys2Proof.Machine.execOraDir dd s
  | .addDir dd => Sys2Proof.Machine.execAddDir dd s
  | .jmp ea => Sys2Proof.Machine.execJmp ea s
  | .jsr ea => Sys2Proof.Machine.execJsr ea s
  | .rts => Sys2Proof.Machine.execRts s
  | .bgnd => Sys2Proof.Machine.execBgnd s
  | .ldaSrt a => Sys2Proof.Machine.execLdaSrt a s
  | .staSrt a => Sys2Proof.Machine.execStaSrt a s
  | .illegal32 => Sys2Proof.Machine.execIllegal32 s
  | .illegal33 => Sys2Proof.Machine.execIllegal33 s
  | .illegal3D => Sys2Proof.Machine.execIllegal3D s
  | .illegal40 => Sys2Proof.Machine.execIllegal40 s
  | .illegal47 => Sys2Proof.Machine.execIllegal47 s
  | .illegal4D => Sys2Proof.Machine.execIllegal4D s
  | .illegalA3 => Sys2Proof.Machine.execIllegalA3 s
  | .illegalA5 => Sys2Proof.Machine.execIllegalA5 s
  | .illegalA7 => Sys2Proof.Machine.execIllegalA7 s
  | .illegalB3 => Sys2Proof.Machine.execIllegalB3 s
  | .illegalB5 => Sys2Proof.Machine.execIllegalB5 s
  | .adcIx => Sys2Proof.Machine.execAdcIx s
  | .adcX => Sys2Proof.Machine.execAdcX s
  | .sbcIx => Sys2Proof.Machine.execSbcIx s
  | .sbcX => Sys2Proof.Machine.execSbcX s
  | .andIx => Sys2Proof.Machine.execAndIx s
  | .andX => Sys2Proof.Machine.execAndX s
  | .oraIx => Sys2Proof.Machine.execOraIx s
  | .oraX => Sys2Proof.Machine.execOraX s
  | .eorIx => Sys2Proof.Machine.execEorIx s
  | .eorX => Sys2Proof.Machine.execEorX s
  | .cmpIx => Sys2Proof.Machine.execCmpIx s
  | .cmpX => Sys2Proof.Machine.execCmpX s
  | .addIx => Sys2Proof.Machine.execAddIx s
  | .addX => Sys2Proof.Machine.execAddX s
  | .subIx => Sys2Proof.Machine.execSubIx s
  | .subX => Sys2Proof.Machine.execSubX s
  | .incIx => Sys2Proof.Machine.execIncIx s
  | .incX => Sys2Proof.Machine.execIncX s
  | .decIx => Sys2Proof.Machine.execDecIx s
  | .decX => Sys2Proof.Machine.execDecX s
  | .clrIx => Sys2Proof.Machine.execClrIx s
  | .clrX => Sys2Proof.Machine.execClrX s
  | .asla => Sys2Proof.Machine.execAsla s
  | .bhs rr => Sys2Proof.Machine.execBhs rr s
  | .blo rr => Sys2Proof.Machine.execBlo rr s
  | .brn => Sys2Proof.Machine.execBrn s
  | .bsetIx n => Sys2Proof.Machine.execBsetIx n s
  | .bsetX n => Sys2Proof.Machine.execBsetX n s
  | .bclrIx n => Sys2Proof.Machine.execBclrIx n s
  | .bclrX n => Sys2Proof.Machine.execBclrX n s
  | .brsetIx n rr => Sys2Proof.Machine.execBrsetIx n rr s
  | .brsetX n rr => Sys2Proof.Machine.execBrsetX n rr s
  | .brclrIx n rr => Sys2Proof.Machine.execBrclrIx n rr s
  | .brclrX n rr => Sys2Proof.Machine.execBrclrX n rr s
  | .cbeqIx rr => Sys2Proof.Machine.execCbeqIx rr s
  | .cbeqX rr => Sys2Proof.Machine.execCbeqX rr s
  | .dbnzIx rr => Sys2Proof.Machine.execDbnzIx rr s
  | .dbnzX rr => Sys2Proof.Machine.execDbnzX rr s
  | .ldaIx => Sys2Proof.Machine.execLdaIx s
  | .staIx => Sys2Proof.Machine.execStaIx s
  | .staX => Sys2Proof.Machine.execStaX s
  | .tax => Sys2Proof.Machine.execTax s
  | .txa => Sys2Proof.Machine.execTxa s
  | .ldxImm ii => Sys2Proof.Machine.execLdxImm ii s
  | .ldxDir dd => Sys2Proof.Machine.execLdxDir dd s
  | .ldxIx => Sys2Proof.Machine.execLdxIx s
  | .stxDir dd => Sys2Proof.Machine.execStxDir dd s
  | .movIxDir dd => Sys2Proof.Machine.execMovIxDir dd s
  | .movDirIx ss => Sys2Proof.Machine.execMovDirIx ss s
  | .movImmIx ii => Sys2Proof.Machine.execMovImmIx ii s
  | .tstDir dd => Sys2Proof.Machine.execTstDir dd s
  | .tstIx => Sys2Proof.Machine.execTstIx s
  | .tstX => Sys2Proof.Machine.execTstX s
  | .tsta => Sys2Proof.Machine.execTsta s
  | .bdcReset => Sys2Proof.Machine.execBdcReset s
  | .background => Sys2Proof.Machine.execBackground s
  | .readStatus => Sys2Proof.Machine.execReadStatus s
  | .writeControl cc => Sys2Proof.Machine.execWriteControl cc s
  | .readByte aaaa => Sys2Proof.Machine.execReadByte aaaa s
  | .readByteWs aaaa => Sys2Proof.Machine.execReadByteWs aaaa s
  | .writeByte aaaa wd => Sys2Proof.Machine.execWriteByte aaaa wd s
  | .writeByteWs aaaa wd => Sys2Proof.Machine.execWriteByteWs aaaa wd s
  | .readBkpt => Sys2Proof.Machine.execReadBkpt s
  | .writeBkpt wbkp => Sys2Proof.Machine.execWriteBkpt wbkp s
  | .go => Sys2Proof.Machine.execGo s
  | .trace1 => Sys2Proof.Machine.execTrace1 s
  | .readBlock aaaa => Sys2Proof.Machine.execReadBlock aaaa s
  | .writeBlock aaaa wd => Sys2Proof.Machine.execWriteBlock aaaa wd s
  | .readA => Sys2Proof.Machine.execReadA s
  | .writeA wd => Sys2Proof.Machine.execWriteA wd s
  | .readCcrPc => Sys2Proof.Machine.execReadCcrPc s
  | .writeCcrPc wd16 => Sys2Proof.Machine.execWriteCcrPc wd16 s
  | .readSpc => Sys2Proof.Machine.execReadSpc s
  | .writeSpc wd16 => Sys2Proof.Machine.execWriteSpc wd16 s
  | .sync => Sys2Proof.Machine.execSync s

end Sys2Proof.Machine
end

