-- ==== Sys2Proof/Machine/Cycle.lean ====
section
/-! DEFINITION. What each agent does in its turn (spec 00_scope R9, R18): the CPU executes an instruction, the host sends a byte, a reset source or the wake-up request
changes. Step.lean calls these. -/

namespace Sys2Proof.Machine

/-- Go on from a next state. -/
def onNext (o : Host.Outcome State Fault Refusal) (f : State → Host.Outcome State Fault Refusal) : Host.Outcome State Fault Refusal :=
  match o with
  | .next s => f s
  | .fault r => .fault r
  | .refused r => .refused r

/-! ## The CPU -/

/-- Fetch the opcode at PC and the operand bytes its length asks for, in address order (00_scope R18; 30_encoding R100; 20_memory R77). Of an illegal opcode no
operand is fetched (60_exceptions R323). -/
def fetchInstr (s : State) : Access Instr :=
  (fetch s.pc s).bind fun op s1 =>
    if opLength op = 1 then .ok (decodeOp op 0 0) s1
    else (fetch (s.pc + 1) s1).bind fun b1 s2 =>
      if opLength op = 2 then .ok (decodeOp op b1 0) s2
      else (fetch (s.pc + 2) s2).bind fun b2 s3 => .ok (decodeOp op b1 b2) s3

/-- What the debug logic makes of an instruction boundary: a tagged or a forced breakpoint, then a pending BACKGROUND command (60_exceptions R335, R354, R355, R356;
47_bdc_commands R293; log 17). A BACKGROUND request stops nothing with ENBDM 0; State.settle drops it (DESIGN CHOICE, log 17). -/
def State.debugStop (s : State) : Option State :=
  if s.tag || s.forcedRequest then some s.stopForDebug
  else if s.backgroundRequest && s.bdcscr.enbdm then some s.enterBackground
  else none

/-- The boundary after an instruction: what is pending stops the CPU, and so does the end of a TRACE1, which leaves WS 0 (47_bdc_commands R309; log 19, log 30). A BACKGROUND
request lasts to this boundary and no longer (10_state R51 item 5): one that finds ENBDM 0 here, because a WRITE_CONTROL inside the same instruction cleared it, is dropped
(47_bdc_commands R293; DESIGN CHOICE, log 17). -/
def State.settle (s : State) : State :=
  match s.mode with
  | .background | .reset => s
  | .run | .wait | .stop =>
    let t := if s.trace then { s with bdcscr := { s.bdcscr with ws := false } } else s
    match t.debugStop with
    | some u => u
    | none => if t.trace then t.enterBackground else { t with backgroundRequest := false }

/-- One instruction up to the boundary after it (00_scope R18). WAIT and STOP set State.afterSleep, every other instruction clears it (log 26). -/
def instruction (s : State) : Host.Outcome State Fault Refusal :=
  match fetchInstr s with
  | .ok i t => exec i { t with afterSleep := false }
  | .abort cause t => .next (takeReset cause t)

/-- One instruction in run mode, and the boundary after it. -/
def runInstr (s : State) : Host.Outcome State Fault Refusal := onNext (instruction s) fun t => .next t.settle

/-- The opcode about to execute is tagged where its address is the breakpoint's (60_exceptions R354; log 17). -/
def State.tagOpcode (s : State) : State :=
  { s with tag := s.bdcscr.bkpten && !s.bdcscr.fts && s.pc == s.breakpointAddress }

/-- The CPU's turn (10_state R39; 60_exceptions R333, R335, R340). -/
def cpuStep (s : State) : Host.Outcome State Fault Refusal :=
  match s.mode with
  | .reset | .background => .next s
  | .wait | .stop => .next (if s.wakeRequest then s.wakeUp else s)
  | .run =>
    match s.tagOpcode.debugStop with
    | some t => .next t
    | none => runInstr s.tagOpcode

/-! ## The debug host -/

/-- The debug controller has a clock: always, but in reset (log 31) and, where the device says so, in wait or in stop with ENBDM 0 (47_bdc_commands R282; log 28). -/
def State.listening (s : State) : Bool :=
  match s.mode with
  | .run | .background => true
  | .wait => s.bdcscr.enbdm || s.dev.bdcClockInWait
  | .stop => s.bdcscr.enbdm || s.dev.bdcClockInStop
  | .reset => false

/-- A byte received: the new serial state, and the command it completes (47_bdc_commands R276, R278, R280). -/
def Serial.receive (r : Serial) (b : Byte) : Serial × Option Instr :=
  match r with
  | .idle =>
    match commandItems b with
    | none => (.idle, none)
    | some 0 => (.idle, decodeCommand b [])
    | some (_ + 1) => (.receiving b [], none)
  | .receiving code items =>
    if commandItems code = some (items.length + 1) then (.idle, decodeCommand code (items ++ [b]))
    else (.receiving code (items ++ [b]), none)
  | .readBlock p => (.readBlock p, none)
  | .writeBlock p => (.writeBlock p, none)
  | .readBlockRefused => (.readBlockRefused, none)
  | .writeBlockRefused => (.writeBlockRefused, none)

/-- A command at an instruction boundary. A TRACE1 runs its instruction here (47_bdc_commands R309; log 29). -/
def runCommand (i : Instr) (s : State) : Host.Outcome State Fault Refusal :=
  onNext (exec i s) fun t =>
    if t.trace then cpuStep { t with collision := false } else .next { t with collision := false }.settle

/-- A TRACE1 whose instruction a reset source aborts, after its store or before it. Inside the instruction BDMACT is 0, so that the COP is not suspended (60_exceptions R321;
47_bdc_commands R309; log 29). The cause on record is that of the source, also where the instruction has raised a reset itself (DESIGN CHOICE, log 33). -/
def cutTrace (source : ResetSource) (stored : Bool) (s : State) : Host.Outcome State Fault Refusal :=
  onNext (if stored then runCommand .trace1 s else .next s) fun t => .next (t.enterReset source.cause)

/-- A command the host has completed, at the time the host chose (47_bdc_commands R279, R294). -/
def completeCommand (i : Instr) (timing : Timing) (s : State) : Host.Outcome State Fault Refusal :=
  match timing with
  | .boundary => runCommand i s
  | .collide => runCommand i { s with collision := true }
  | .cut source stored => if i = .trace1 ∧ s.bdcscr.bdmact = true then cutTrace source stored s else runCommand i s

/-- Eight bit times of the host (47_bdc_commands R276, R279, R281, R310, R311; log 23, log 24). A reply goes out first; then an open block takes or gives a byte, or a refused one
drops it or gives a free value (log 21); then the byte belongs to a command. -/
def hostByte (b : Byte) (timing : Timing) (s : State) : Host.Outcome State Fault Refusal :=
  match s.reply with
  | r :: rs => .next { s with reply := rs, sent := s.sent ++ [r] }
  | [] =>
    match s.serial with
    | .readBlock p => ((blockRead p s).bind fun _ t => .ok () t.delivered).finish
    | .writeBlock p => (blockWrite p b s).finish
    | .readBlockRefused => .next (s.answerFree 1).delivered
    | .writeBlockRefused => .next s
    | r =>
      match r.receive b with
      | (r', none) => .next { s with serial := r' }
      | (r', some i) => completeCommand i timing { s with serial := r' }

/-- The 512-cycle timeout: the command is discarded, nothing else changes (47_bdc_commands R276). -/
def State.softReset (s : State) : State := { s with serial := .idle, reply := [] }

/-! ## The world -/

/-- An address of the list that a power-on gives is one of a RAM byte. -/
def Device.ramByte (d : Device) (e : Host.Cell) : Bool :=
  decide (e.1 < addressSpace) && e.1 != xPhys.toNat && e.1 != pageselPhys.toNat && d.kindAt (BitVec.ofNat 14 e.1) == .ram

/-- RAM after power comes on: the given bytes at RAM addresses, the other RAM bytes unlisted; flash keeps its bytes (70_reset_and_hazards R374; log 20). -/
def Device.fillRam (d : Device) (m : Memory) (ram : List Host.Cell) : Memory :=
  (ram.filter d.ramByte).foldl (fun m e => m.write e.1 e.2) (m.filter fun e => d.kindAt (BitVec.ofNat 14 e.1) != .ram)

/-- A reset source becomes active: nothing new while another holds the core in reset (60_exceptions R329); the COP is suspended in active background mode (47_bdc_commands
R296; log 33). -/
def State.resetFrom (source : ResetSource) (s : State) : State :=
  if s.mode == .reset || (source == .cop && s.bdcscr.bdmact) then s else s.enterReset source.cause

/-- The end of a turn. A reset that has become active inside it outranks a breakpoint and a pending BACKGROUND (60_exceptions R321, R335; log 17, log 27); the cause on record is
then its own, also where the instruction has raised a reset itself, which is kept in State.wentWrong alone (DESIGN CHOICE, log 33). A BDC_RESET is not held active, and ends
here (log 35). Commands that found no place in the instruction are dropped (log 25). -/
def State.endTurn (reset : Option TurnReset) (t : State) : State :=
  match reset with
  | none => { t with stolen := [] }
  | some (.source source) => t.enterReset source.cause
  | some .bdcReset => takeReset .bdcReset t

/-- The CPU up to the boundary at which a reset outranks what the debug logic would do there: the instruction, or nothing where the debug logic stops the CPU before it. -/
def cpuToBoundary (s : State) : Host.Outcome State Fault Refusal :=
  match s.tagOpcode.debugStop with
  | some _ => .next s
  | none => instruction s.tagOpcode

/-- The host can send a whole command in this turn: the debug controller has a clock, and no command, block or reply is in progress (log 25). -/
def State.takesCommands (s : State) : Bool := s.listening && s.serial == .idle && s.reply == []

/-- The reset of a turn that takes place: a BDC_RESET where the host can send it, a source outside the core always. -/
def State.turnReset (s : State) (reset : Option TurnReset) : Option TurnReset :=
  match reset with
  | some .bdcReset => if s.takesCommands then reset else none
  | _ => reset

/-- A turn of the CPU with commands of the host inside its instruction and a reset that becomes active before the instruction ends. Commands are taken where the host can send
them, and have their effect where the instruction has a read and then a write (log 25). Where the CPU runs no instruction the reset becomes active as at any other time. -/
def cpuTurn (commands : List Instr) (reset : Option TurnReset) (s : State) : Host.Outcome State Fault Refusal :=
  if s.mode = .run then
    onNext ((if (s.turnReset reset).isSome then cpuToBoundary else cpuStep) { s with stolen := if s.takesCommands then commands else [] }) fun t =>
      .next (t.endTurn (s.turnReset reset))
  else
    match s.turnReset reset with
    | none => cpuStep s
    | some (.source source) => .next (s.resetFrom source)
    | some .bdcReset => .next (takeReset .bdcReset s)

/-- The wake-up request changes its level (60_exceptions R330, R333; log 16). In reset the peripherals ask for nothing (10_state R52). -/
def State.setWake (level : Bool) (s : State) : State :=
  if s.mode == .reset then s
  else if s.asleep && level then { s with wakeRequest := level }.wakeUp
  else { s with wakeRequest := level }

/-- One input (00_scope R9; log 23). Power that comes on while another source holds the core in reset refills RAM and records the cause POR (60_exceptions R329; DESIGN CHOICE,
log 33). -/
def event (e : Input) (s : State) : Host.Outcome State Fault Refusal :=
  match e with
  | .cpu => cpuStep s
  | .turn commands reset => cpuTurn commands reset s
  | .powerOn ram => .next { s.enterReset .por with mem := s.dev.fillRam s.mem ram }
  | .resetOn source => .next (s.resetFrom source)
  | .resetOff => .next (if s.mode == .reset then s.leaveReset else s)
  | .wake level => .next (s.setWake level)
  | .bkgd low => .next { s with bkgdLowAtResetEnd := low }
  | .sync => if s.listening then runCommand .sync s else .next s
  | .softReset => .next (if s.listening then s.softReset else s)
  | .byte b timing => if s.listening then hostByte b timing s else .next s

/-! ## Loading from outside -/

/-- Put a byte where a fetch at this address finds it. -/
def State.place (s : State) (p : Addr) (v : Byte) : State :=
  if p = xPhys then { s with x := v }
  else if p = pageselPhys then { s with pagesel := v }
  else { s with mem := s.mem.write p.toNat v }

/-- Put bytes at successive addresses. -/
def State.placeAll : List Byte → Addr → State → State
  | [], _, s => s
  | b :: bs, p, s => State.placeAll bs (p + 1) (s.place p b)

end Sys2Proof.Machine
end

