-- ==== Sys2Proof/Machine/Step.lean ====
section
/-! DEFINITION. The step of the machine, and the loading of one instruction where the step fetches. -/

namespace Sys2Proof.Machine

/-- One step: the next input of the world, or, when there is none, the CPU's turn (log 23). -/
def step (s : State) : Host.Outcome State Fault Refusal :=
  match s.env with
  | [] => cpuStep s
  | e :: rest => event e { s with env := rest }

/-- The state with an instruction's bytes at PC, as a load from outside the machine leaves them (log 4). -/
def State.withFetchWord (s : State) (nbits w : Nat) : State := { State.placeAll (storedBytes nbits w) s.pc s with stores := [] }

end Sys2Proof.Machine
end

