-- ==== Sys2Proof/Machine/Timing.lean ====
section
/-! DEFINITION. Cycles and access details (spec 70_reset_and_hazards R390–R392). No meaning reads them: no rule of the machine depends on time (R390). -/

namespace Sys2Proof.Machine

/-- The letters of an access detail (70_reset_and_hazards R390). -/
inductive CycleCode where
  /-- Free cycle. -/
  | f
  /-- Program byte access. -/
  | p
  /-- 8-bit data read. -/
  | r
  /-- 8-bit data write. -/
  | w
deriving DecidableEq, Repr

open CycleCode in
/-- The access detail of an instruction the CPU executes (70_reset_and_hazards R392; BGND's six letters are 90_conflicts C8). The illegal opcodes have no line, and a
debug command is no instruction of the CPU. -/
def nativeDetail : Instr → List CycleCode
  | .adcImm _ | .addImm _ | .subImm _ | .sbcImm _ | .cmpImm _ | .andImm _ | .oraImm _ | .eorImm _ | .ldaImm _ => [p, p]
  | .adcDir _ | .addDir _ | .subDir _ | .sbcDir _ | .cmpDir _ | .andDir _ | .oraDir _ | .eorDir _ | .ldaDir _ => [r, p, p]
  | .staDir _ | .clrDir _ => [w, p, p]
  | .addTny _ | .subTny _ | .ldaSrt _ => [r, f, p]
  | .staSrt _ | .clrSrt _ => [w, p]
  | .incTny _ | .decTny _ => [r, f, w, p]
  | .incDir _ | .decDir _ | .bset .. | .bclr .. => [r, f, w, p, p]
  | .movImm .. => [p, w, p, p]
  | .movDir .. => [r, p, w, p, p]
  | .brset .. | .brclr .. | .cbeqDir .. => [r, p, p, p, p]
  | .cbeqa .. => [p, p, p, p]
  | .dbnzDir .. => [r, f, w, p, p, p, p]
  | .dbnza _ | .jmp _ | .jsr _ => [f, p, p, p]
  | .bra _ | .bcc _ | .bcs _ | .bne _ | .beq _ | .bsr _ | .rts => [p, p, p]
  | .inca | .deca | .clra | .coma | .lsla | .lsra | .rola | .rora | .sha | .sla | .nop | .sec | .clc => [p]
  | .wait | .stop => [f, p]
  | .bgnd => [f, f, f, p, p, p]
  | _ => []

/-- The access detail of an instruction; a pseudo instruction takes the line of the form it expands to (70_reset_and_hazards R392). -/
def accessDetail (i : Instr) : List CycleCode := nativeDetail (native i)

/-- The number of cycles: one for each letter (70_reset_and_hazards R390). BGND has six letters; its column prints 5, and 90_conflicts C8 says to take 6. -/
def cycles (i : Instr) : Nat := (accessDetail i).length

end Sys2Proof.Machine
end

