-- ==== Sys2Proof/Safety.lean ====
section
/-! DEFINITION. What claims say about states: the invariant of the machine and a run that has not gone wrong. -/

namespace Sys2Proof.Machine

/-- No block command is open, and none is refused that lasts to its soft-reset: the next byte belongs to a command. -/
def Serial.noBlock : Serial → Bool
  | .idle | .receiving _ _ => true
  | .readBlock _ | .writeBlock _ | .readBlockRefused | .writeBlockRefused => false

/-- No block command is open that reads or writes memory. -/
def Serial.noBlockAccess : Serial → Bool
  | .idle | .receiving _ _ | .readBlockRefused | .writeBlockRefused => true
  | .readBlock _ | .writeBlock _ => false

/-- What every state between two steps keeps: memory in its canonical form, BDCSCR in agreement with the mode (10_state R39, R43, R46, R47; 60_exceptions R350), a block command
open in active background mode only (47_bdc_commands R310, R311), and no request of the debug logic left over from before the boundary (60_exceptions R354, R355; 47_bdc_commands R293, R309). -/
structure State.Inv (s : State) : Prop where
  memory : s.mem.wf = true
  active : s.bdcscr.bdmact = (s.mode == .background)
  enabled : s.mode = .background → s.bdcscr.enbdm = true
  asleep : s.asleep = true → s.bdcscr.ws = true
  awake : s.mode = .run → s.bdcscr.ws = false
  blocks : s.mode ≠ .background → s.serial.noBlockAccess = true
  noForced : s.forcedRequest = false
  noBackground : s.backgroundRequest = false
  noTrace : s.trace = false
  noStolen : s.stolen = []
  noCollision : s.collision = false

/-! ## The vocabulary of the claims about single instructions -/

/-- An instruction beside what the spec's tables say of it: its bytes (30_encoding R101, R120), its access detail (70_reset_and_hazards R392) and its operand address. -/
structure Form where
  instr : Instr
  bytes : List Byte
  detail : List CycleCode
  operand : Byte

/-- The model encodes the instruction by these bytes and lists this access detail. -/
def Form.fits (f : Form) : Prop := encode f.instr = f.bytes ∧ accessDetail f.instr = f.detail

/-- The length in bytes, as a step of PC. -/
def Form.len (f : Form) : Addr := BitVec.ofNat 14 f.bytes.length

/-- The instruction has these bytes and this access detail, and runs from `s` to `t`. -/
def Runs (i : Instr) (bytes : List Byte) (detail : List CycleCode) (s t : State) : Prop :=
  encode i = bytes ∧ accessDetail i = detail ∧ exec i s = .next t

/-- The operand address does not lead to ILLEGAL_ADDR (60_exceptions R325). -/
def State.legal (s : State) (a : Byte) : Prop := s.dev.kindAt (s.resolve a) ≠ .illegal

/-- MemRead of an operand address: the byte (20_memory R72). -/
def State.operandByte (s : State) (a : Byte) : Byte := s.peek (s.resolve a)

/-- MemRead of an operand address: the state, which differs in the forced-breakpoint request and in the free values drawn alone. -/
def State.afterOperand (s : State) (a : Byte) : State := s.afterRead (s.resolve a)

/-- An illegal operand address resets the machine, and nothing of the instruction happens (60_exceptions R325). -/
def Form.traps (f : Form) (s : State) : Prop := ¬ s.legal f.operand → exec f.instr s = .next (takeReset .illegalAddress s)

/-- The record of stores after a store to `p` by an instruction that ends at `next` (20_memory R86; log 13). -/
def State.storesAfter (s : State) (p next : Addr) : List (Addr × Nat) :=
  if s.dev.kindAt p = .ram then (p, (p - next).toNat) :: s.stores else s.stores

/-- `t` is `base` with one byte stored: every field but X, PAGESEL and memory is that of `base`, the byte at `p` is `v` where `p` is storage that a store changes and as in `s`
elsewhere (20_memory R64), and every other byte reads as it did in `s`. -/
structure ByteStored (s base t : State) (p : Addr) (v : Byte) : Prop where
  fields : t = { base with x := t.x, pagesel := t.pagesel, mem := t.mem }
  byte : t.byteAt p = if s.dev.kindAt p = .ram then v else s.byteAt p
  others : ∀ q, q ≠ p → t.byteAt q = s.byteAt q

/-- A command of the debug host has these bytes, and runs from `s` to `t` (47_bdc_commands R278). -/
def Commands (i : Instr) (bytes : List Byte) (s t : State) : Prop := encode i = bytes ∧ exec i s = .next t

/-- A memory access of the host: READ_BYTE with no value, WRITE_BYTE with one, each with the status where `ws` (47_bdc_commands R287–R290). -/
structure HostAccess where
  address : Addr
  value : Option Byte
  ws : Bool
deriving DecidableEq, Repr

/-- The command that makes the access. -/
def HostAccess.command (h : HostAccess) : Instr :=
  match h.value, h.ws with
  | none, false => .readByte (h.address.setWidth 16)
  | none, true => .readByteWs (h.address.setWidth 16)
  | some v, false => .writeByte (h.address.setWidth 16) v
  | some v, true => .writeByteWs (h.address.setWidth 16) v

/-- The state after accesses that complete, one after the other, in X, PAGESEL, memory, the record of stores and the free values drawn, and the bytes the host gets. -/
def State.hostAccesses : List HostAccess → State → State × List Byte
  | [], s => (s, [])
  | h :: hs, s =>
    let status := if h.ws then [({ s.bdcscr with wsf := false } : Bdcscr).toByte] else []
    match h.value with
    | none =>
      let r := State.hostAccesses hs { s with freeCount := s.freeCount + s.draws h.address }
      (r.1, status ++ s.peek h.address :: r.2)
    | some v =>
      let r := State.hostAccesses hs (s.store h.address v)
      (r.1, status ++ r.2)

/-- Bytes received one after the other, up to the first that completes a command. -/
def Serial.feed (r : Serial) : List Byte → Serial × Option Instr
  | [] => (r, none)
  | b :: bs =>
    match r.receive b with
    | (r', none) => Serial.feed r' bs
    | (r', some i) => (r', some i)

/-- The run has not gone wrong: no step of it has taken an illegal-opcode or illegal-address reset (60_exceptions R322; log 36). No step takes the mark back. -/
def State.sound (s : State) : Bool := !s.wentWrong

end Sys2Proof.Machine
end

