-- ==== Sys2Proof/Certificates/Slice0/Obligations.lean ====
section
/-! DEFINITION. The statements about the machine, each from the rules of the spec that its entry in OBLIGATIONS.json cites. -/

open Sys2Proof Sys2Proof.Machine

/-- For every instruction of the CPU that is well-formed (the one name the decoder gives to its words) and every bytes after it, decoding its encoding followed by those
bytes gives the instruction and the bytes left. Every operand at every value. [30_encoding R101, R110, R120] -/
def Obligations.DecodeEncodeRoundTrip : Prop :=
  ∀ (i : Instr) (rest : List Byte), isCommand i = false → WellFormed i = true → decode (encode i ++ rest) = .decoded i rest

/-- For every opcode and every two bytes after it: what the decoder names is an instruction of the CPU, it is well-formed, and its encoding is the first opLength bytes,
but that for JMP and JSR bits 7:6 of the high address byte, which the CPU ignores (the model follows decision D2, log 14), come back as 0. [30_encoding R100, R110, R108, R120] -/
def Obligations.EncodeDecodeRoundTrip : Prop :=
  ∀ op b1 b2 : Byte,
    isCommand (decodeOp op b1 b2) = false ∧ WellFormed (decodeOp op b1 b2) = true ∧
      encode (decodeOp op b1 b2) = [op, if op = 0xBC#8 ∨ op = 0xBD#8 then b1 &&& 0x3F#8 else b1, b2].take (opLength op)

/-- For every debug command but SYNC, which has no code: received byte by byte from the idle state, its bytes complete that command and no other, and the serial state is
idle again. [47_bdc_commands R278, R277, R276] -/
def Obligations.CommandRoundTrip : Prop :=
  ∀ i : Instr, isCommand i = true → i ≠ .sync → Serial.feed .idle (encode i) = (.idle, some i)

/-- For every instruction and every state, running the native form of Table R120 and running the instruction itself give the same outcome; and for every opcode and
operand bytes the name the decoder gives expands to what the opcode map alone gives, so that naming changes no meaning. [30_encoding R120, R109] -/
def Obligations.PseudoRunsAsItsNative : Prop :=
  (∀ (i : Instr) (s : State), exec (native i) s = exec i s) ∧ ∀ op b1 b2 : Byte, native (decodeOp op b1 b2) = decodeNative op b1 b2

/-- For every first byte and every bytes after it: the decoded instruction is one of the eleven illegal opcodes exactly where the byte is one of $32 $33 $3D $40 $47 $4D
$A3 $A5 $A7 $B3 $B5; each of the eleven illegal instructions is that byte alone, with no operand byte fetched and no access detail, and running it takes the reset
with cause illegal opcode, no byte of memory changed; 245 first bytes are defined instructions. [R114, R323] -/
def Obligations.IllegalOpcodesDecode : Prop :=
  (∀ op b1 b2 : Byte,
      (decodeOp op b1 b2 ∈ [Instr.illegal32, .illegal33, .illegal3D, .illegal40, .illegal47, .illegal4D, .illegalA3, .illegalA5, .illegalA7, .illegalB3, .illegalB5] ↔
        op ∈ [0x32#8, 0x33#8, 0x3D#8, 0x40#8, 0x47#8, 0x4D#8, 0xA3#8, 0xA5#8, 0xA7#8, 0xB3#8, 0xB5#8])) ∧
    (∀ s : State, ∀ i ∈ ([(.illegal32, 0x32#8), (.illegal33, 0x33#8), (.illegal3D, 0x3D#8), (.illegal40, 0x40#8), (.illegal47, 0x47#8), (.illegal4D, 0x4D#8),
        (.illegalA3, 0xA3#8), (.illegalA5, 0xA5#8), (.illegalA7, 0xA7#8), (.illegalB3, 0xB3#8), (.illegalB5, 0xB5#8)] : List (Instr × Byte)),
      encode i.1 = [i.2] ∧ opLength i.2 = 1 ∧ accessDetail i.1 = [] ∧ exec i.1 s = .next (takeReset .illegalOpcode s) ∧ (takeReset .illegalOpcode s).mem = s.mem) ∧
    ((List.range 256).filter fun n => !(illegalOpcodes.contains (BitVec.ofNat 8 n))).length = 245

/-- da is LDA $1A, 3e 5a 1a is MOV #$5A,$1A, 10 08 is BSET 0,$08, 68 is ADD $08, a8 5a is EOR #$5A, 46 is RORA, 0f 0e fd is BRCLR 7,D[X], bd 10 b5 is JSR $10B5, af is
WAIT. [40_data_movement R157, 41_math R199, 42_logical R209, 43_shift_rotate R217, 44_branch_loop R241, 45_subroutine R257, 46_misc R266] -/
def Obligations.ListingWordsDecode : Prop :=
  decode [0xDA#8] = .decoded (.ldaSrt 0x1A#5) [] ∧ decode [0x3E#8, 0x5A#8, 0x1A#8] = .decoded (.movImm 0x5A#8 0x1A#8) [] ∧
    decode [0x10#8, 0x08#8] = .decoded (.bset 0#3 0x08#8) [] ∧ decode [0x68#8] = .decoded (.addTny 0x8#4) [] ∧
    decode [0xA8#8, 0x5A#8] = .decoded (.eorImm 0x5A#8) [] ∧ decode [0x46#8] = .decoded .rora [] ∧
    decode [0x0F#8, 0x0E#8, 0xFD#8] = .decoded (.brclrIx 7#3 0xFD#8) [] ∧ decode [0xBD#8, 0x10#8, 0xB5#8] = .decoded (.jsr 0x10B5#14) [] ∧
    decode [0xAF#8] = .decoded .wait []

/-- With no input waiting, in run mode, with the breakpoint disabled and no request of the debug logic pending, with no store since the last change of flow, and with RAM
or flash (X and PAGESEL included) at the addresses of the instruction: a step is exec of the decoded instruction at that state (with the model's own mark of a WAIT
or STOP just executed taken back, log 26), followed by the boundary after it (settle: a pending breakpoint or BACKGROUND request, the end of a TRACE1). [00_scope R18, 10_state R24, 20_memory R76, 30_encoding R100] -/
def Obligations.StepRunsTheDecodedInstruction : Prop :=
  ∀ (s : State) (i : Instr) (rest : List Byte),
    s.env = [] → s.mode = .run → s.bdcscr.bkpten = false → s.tag = false → s.forcedRequest = false → s.backgroundRequest = false → s.stores = [] →
    (∀ k : Nat, k < opLength (s.byteAt s.pc) → s.unstated (s.pc + BitVec.ofNat 14 k) = false ∧ s.dev.kindAt (s.pc + BitVec.ofNat 14 k) ≠ .illegal) →
    decode [s.byteAt s.pc, s.byteAt (s.pc + 1), s.byteAt (s.pc + 2)] = .decoded i rest →
    step s = onNext (exec i { s with afterSleep := false }) fun t => .next t.settle

/-- In run mode with no breakpoint and no request pending and no store outstanding: an opcode address in ILLEGAL_ADDR resets the machine; so does an illegal address of
the second byte of a longer instruction and of the third byte of a three-byte one, the earlier bytes being RAM or flash. Nothing of the instruction happens. With the
breakpoint disabled, as here, the fetches leave no request. [60_exceptions R325, R335, 20_memory R76] -/
def Obligations.FetchFromIllegalAddressResets : Prop :=
  ∀ s : State, s.env = [] → s.mode = .run → s.bdcscr.bkpten = false → s.forcedRequest = false → s.backgroundRequest = false → s.stores = [] →
    (s.dev.kindAt s.pc = .illegal → step s = .next (takeReset .illegalAddress s)) ∧
    (s.dev.kindAt s.pc ≠ .illegal → s.unstated s.pc = false → 2 ≤ opLength (s.byteAt s.pc) →
      (s.dev.kindAt (s.pc + 1) = .illegal → step s = .next (takeReset .illegalAddress s)) ∧
      (s.dev.kindAt (s.pc + 1) ≠ .illegal → s.unstated (s.pc + 1) = false → opLength (s.byteAt s.pc) = 3 → s.dev.kindAt (s.pc + 2) = .illegal →
        step s = .next (takeReset .illegalAddress s)))

/-- For every state: an operand address below $C0 other than $0E is its own physical address; one in the window goes to PAGESEL*64 + (a - $C0); $0E goes where the
direct-page address in X goes, so X = $0E reaches the byte at $000E, X = $0F reaches X, X = $1F reaches PAGESEL (R71 derives that one), and X in $C0-$FF goes through
the window: each step once is the spec's own decision D3 (log 15). With PAGESEL bits 13:6 of any physical address, the window reaches that address. [20_memory R67, R70, R71, R72, 92_eei_decisions D3] -/
def Obligations.DataAddressResolution : Prop :=
  ∀ s : State,
    (∀ a : Byte, a ≠ 0x0E#8 → a < 0xC0#8 → (s.resolve a).toNat = a.toNat) ∧
    (∀ a : Byte, 0xC0#8 ≤ a → (s.resolve a).toNat = s.pagesel.toNat * 64 + (a.toNat - 0xC0)) ∧
    (s.x ≠ 0x0E#8 → s.resolve 0x0E#8 = s.resolve s.x) ∧
    (s.x = 0x0E#8 → s.resolve 0x0E#8 = 0x000E#14) ∧
    (s.x = 0x0F#8 → s.resolve 0x0E#8 = 0x000F#14 ∧ s.byteAt 0x000F#14 = s.x) ∧
    (s.x = 0x1F#8 → s.resolve 0x0E#8 = 0x001F#14 ∧ s.byteAt 0x001F#14 = s.pagesel) ∧
    (∀ p : Addr, s.pagesel = p.extractLsb' 6 8 → s.resolve (0xC0#8 + (p.extractLsb' 0 6).setWidth 8) = p)

/-- For every state whose memory is in canonical form, address and byte: after the store the byte at the address is the stored one where it is RAM, X or PAGESEL, and the
old one elsewhere (flash: decision D14, log 12, DEDUCED; where nothing of the core is: log 11, a DESIGN CHOICE of the model); every other byte reads as before; the
form of memory is kept; and a read of an address of known contents gives its byte and draws no free value. [20_memory R74, R75, R64, R83, 10_state R38] -/
def Obligations.StoreThenRead : Prop :=
  ∀ (s : State) (p : Addr) (v : Byte), s.mem.wf = true →
    (s.store p v).byteAt p = (if s.dev.kindAt p = .ram then v else s.byteAt p) ∧
    (∀ q, q ≠ p → (s.store p v).byteAt q = s.byteAt q) ∧ (s.store p v).mem.wf = true ∧
    (s.unstated p = false → s.dev.kindAt p ≠ .illegal → ∃ t, physRead p s = .ok (s.byteAt p) t ∧ t.freeCount = s.freeCount)

/-- For every state in canonical form and every RAM address (X and PAGESEL included): after the store and any jump, a fetch of that address gives the stored byte; with
no jump and no earlier store on record the fetch completes, and gives it unless the address is less than PREFETCH_DEPTH bytes ahead of the CPU. (Inside that window
the byte fetched is a free value of the model: log 13.) [20_memory R86, 92_eei_decisions D7] -/
def Obligations.StoreSeenAfterBranch : Prop :=
  ∀ (s : State) (p q : Addr) (v : Byte), s.mem.wf = true → s.dev.kindAt p = .ram →
    (∃ t, fetch p ((s.store p v).jumpTo q) = .ok v t) ∧
    (s.stores = [] → ∃ w t, fetch p (s.store p v) = .ok w t ∧ (w = v ∨ (p - s.pc).toNat < Config.prefetchDepth))

/-- For every state with canonical memory and every operand: bytes and access detail are the table's; an illegal address resets; else the next state has PC past the
instruction, Z from the value, the value at the resolved address where that is RAM, X or PAGESEL (elsewhere the byte stays: decision D14, log 12, and log 11, a
DESIGN CHOICE), every other byte and every other field as before, A and C among them, but the breakpoint request, which an access to the breakpoint's address sets
(R355), and the record of stores, which is the model's own (log 13, a DESIGN CHOICE). Covers STA (direct, short, ,X, X, TAX), MOV #ii (direct, LDX #ii, D[X]) and CLR
(direct, short, ,X, CLRX). [40_data_movement R144, R145, R146, R152, R154, R155, R150, 41_math R187, R188, R193, 20_memory R64, 60_exceptions R325] -/
def Obligations.StoreToMemory : Prop :=
  ∀ (s : State) (dd ii : Byte) (a : BitVec 5), s.mem.wf = true → ∀ f ∈ ([(⟨.staDir dd, [0xB7#8, dd], [.w, .p, .p], dd⟩, s.a),
        (⟨.staSrt a, [0xE0#8 + a.setWidth 8], [.w, .p], a.setWidth 8⟩, s.a),
        (⟨.staIx, [0xEE#8], [.w, .p], 0x0E#8⟩, s.a),
        (⟨.staX, [0xEF#8], [.w, .p], 0x0F#8⟩, s.a),
        (⟨.tax, [0xEF#8], [.w, .p], 0x0F#8⟩, s.a),
        (⟨.movImm ii dd, [0x3E#8, ii, dd], [.p, .w, .p, .p], dd⟩, ii),
        (⟨.ldxImm ii, [0x3E#8, ii, 0x0F#8], [.p, .w, .p, .p], 0x0F#8⟩, ii),
        (⟨.movImmIx ii, [0x3E#8, ii, 0x0E#8], [.p, .w, .p, .p], 0x0E#8⟩, ii),
        (⟨.clrDir dd, [0x3F#8, dd], [.w, .p, .p], dd⟩, 0#8),
        (⟨.clrSrt a, [0x80#8 + a.setWidth 8], [.w, .p], a.setWidth 8⟩, 0#8),
        (⟨.clrIx, [0x8E#8], [.w, .p], 0x0E#8⟩, 0#8),
        (⟨.clrX, [0x8F#8], [.w, .p], 0x0F#8⟩, 0#8)] : List (Form × Byte)),
    f.1.fits ∧ f.1.traps s ∧
      (s.legal f.1.operand → ∃ t, exec f.1.instr s = .next t ∧
        ByteStored s { s with pc := s.pc + f.1.len, z := decide (f.2 = 0#8),
                              forcedRequest := s.forcedRequest || s.breakpointHit (s.resolve f.1.operand),
                              stores := s.storesAfter (s.resolve f.1.operand) (s.pc + f.1.len) }
          t (s.resolve f.1.operand) f.2)

/-- For every state with canonical memory and no command waiting for a stolen cycle, and every operand: bytes and access detail are the table's; an illegal source
resets, and so does an illegal destination; else the destination, resolved, takes the byte read where it is RAM, X or PAGESEL (elsewhere the byte stays: decision
D14, log 12, and log 11, a DESIGN CHOICE), Z is set exactly where that byte is $00, PC is past the instruction, and every other byte and field stays, A and C among
them. The next state differs beyond that in the breakpoint request, in the record of stores, which is the model's own (log 13, a DESIGN CHOICE), and in the free
values drawn (log 34) alone. [40_data_movement R147, R150, R151, R155, 41_math R196, 20_memory R64, 60_exceptions R325, 92_eei_decisions D14] -/
def Obligations.MoveMemoryToMemory : Prop :=
  ∀ (s : State) (ss dd : Byte), s.mem.wf = true → s.stolen = [] → ∀ f ∈ ([(⟨.movDir ss dd, [0x4E#8, ss, dd], [.r, .p, .w, .p, .p], ss⟩, dd),
        (⟨.ldxDir ss, [0x4E#8, ss, 0x0F#8], [.r, .p, .w, .p, .p], ss⟩, 0x0F#8),
        (⟨.ldxIx, [0x4E#8, 0x0E#8, 0x0F#8], [.r, .p, .w, .p, .p], 0x0E#8⟩, 0x0F#8),
        (⟨.stxDir dd, [0x4E#8, 0x0F#8, dd], [.r, .p, .w, .p, .p], 0x0F#8⟩, dd),
        (⟨.movIxDir dd, [0x4E#8, 0x0E#8, dd], [.r, .p, .w, .p, .p], 0x0E#8⟩, dd),
        (⟨.movDirIx ss, [0x4E#8, ss, 0x0E#8], [.r, .p, .w, .p, .p], ss⟩, 0x0E#8),
        (⟨.tstDir dd, [0x4E#8, dd, dd], [.r, .p, .w, .p, .p], dd⟩, dd),
        (⟨.tstIx, [0x4E#8, 0x0E#8, 0x0E#8], [.r, .p, .w, .p, .p], 0x0E#8⟩, 0x0E#8),
        (⟨.tstX, [0x4E#8, 0x0F#8, 0x0F#8], [.r, .p, .w, .p, .p], 0x0F#8⟩, 0x0F#8)] : List (Form × Byte)),
    f.1.fits ∧ f.1.traps s ∧
      (s.legal f.1.operand → s.legal f.2 → ∃ t, exec f.1.instr s = .next t ∧
        ByteStored s { s with pc := s.pc + 3, z := decide (s.operandByte f.1.operand = 0#8),
                              forcedRequest := (s.forcedRequest || s.breakpointHit (s.resolve f.1.operand)) || s.breakpointHit (s.resolve f.2),
                              freeCount := s.freeCount + s.draws (s.resolve f.1.operand),
                              stores := s.storesAfter (s.resolve f.2) (s.pc + 3) }
          t (s.resolve f.2) (s.operandByte f.1.operand)) ∧
      (s.legal f.1.operand → ¬ s.legal f.2 →
        exec f.1.instr s = .next (takeReset .illegalAddress { s with freeCount := s.freeCount + s.draws (s.resolve f.1.operand) }))

/-- For every state with canonical memory and no command waiting for a stolen cycle, every bit number and operand: bytes and access detail are the table's; an illegal
address resets; else the byte read, with bit n set or cleared, is stored back where the location is RAM, X or PAGESEL (elsewhere the byte stays: decision D14, log
12, and log 11, a DESIGN CHOICE of the model); PC is past the instruction; Z, C, A and every other byte and field stay, but the breakpoint request, which an access
to the breakpoint's address sets (R355), the count of free values drawn (log 34): a peripheral register, or an address nothing implements, gives a free value (log
11, a DESIGN CHOICE), and the record of stores, which is the model's own (log 13, a DESIGN CHOICE). [40_data_movement R148, R149, R156, 20_memory R64, 60_exceptions R325, R355, 92_eei_decisions D14] -/
def Obligations.SetAndClearBitInMemory : Prop :=
  ∀ (s : State) (n : BitVec 3) (dd : Byte), s.mem.wf = true → s.stolen = [] → ∀ f ∈ ([(⟨.bset n dd, [0x10#8 + 2 * n.setWidth 8, dd], [.r, .f, .w, .p, .p], dd⟩, (· ||| 1#8 <<< n.toNat)),
        (⟨.bsetIx n, [0x10#8 + 2 * n.setWidth 8, 0x0E#8], [.r, .f, .w, .p, .p], 0x0E#8⟩, (· ||| 1#8 <<< n.toNat)),
        (⟨.bsetX n, [0x10#8 + 2 * n.setWidth 8, 0x0F#8], [.r, .f, .w, .p, .p], 0x0F#8⟩, (· ||| 1#8 <<< n.toNat)),
        (⟨.bclr n dd, [0x11#8 + 2 * n.setWidth 8, dd], [.r, .f, .w, .p, .p], dd⟩, (· &&& ~~~(1#8 <<< n.toNat))),
        (⟨.bclrIx n, [0x11#8 + 2 * n.setWidth 8, 0x0E#8], [.r, .f, .w, .p, .p], 0x0E#8⟩, (· &&& ~~~(1#8 <<< n.toNat))),
        (⟨.bclrX n, [0x11#8 + 2 * n.setWidth 8, 0x0F#8], [.r, .f, .w, .p, .p], 0x0F#8⟩, (· &&& ~~~(1#8 <<< n.toNat)))] : List (Form × (Byte → Byte))),
    f.1.fits ∧ f.1.traps s ∧
      (s.legal f.1.operand → ∃ t, exec f.1.instr s = .next t ∧
        ByteStored s { s with pc := s.pc + f.1.len,
                              forcedRequest := s.forcedRequest || s.breakpointHit (s.resolve f.1.operand),
                              freeCount := s.freeCount + s.draws (s.resolve f.1.operand),
                              stores := s.storesAfter (s.resolve f.1.operand) (s.pc + f.1.len) }
          t (s.resolve f.1.operand) (f.2 (s.operandByte f.1.operand)))

/-- For every state with canonical memory and no command waiting for a stolen cycle, and every operand: bytes and access detail are the table's; an illegal address
resets; else the byte read plus or minus 1 is stored back at the resolved address where that is RAM, X or PAGESEL (elsewhere the byte stays: decision D14, log 12,
and log 11, a DESIGN CHOICE), Z is set exactly where the result is $00, and C, A and every other byte and field stay, but the breakpoint request, which an access to
the breakpoint's address sets (R355), the free values drawn (log 34), and the record of stores, which is the model's own (log 13, a DESIGN CHOICE). Covers direct,
tiny, ,X, INCX and DECX. [41_math R181, R182, R184, R185, R193, 20_memory R64, 60_exceptions R325, 92_eei_decisions D14] -/
def Obligations.IncrementAndDecrementMemory : Prop :=
  ∀ (s : State) (dd : Byte) (a : BitVec 4), s.mem.wf = true → s.stolen = [] → ∀ f ∈ ([(⟨.incDir dd, [0x3C#8, dd], [.r, .f, .w, .p, .p], dd⟩, (· + 1#8)),
        (⟨.incTny a, [0x20#8 + a.setWidth 8], [.r, .f, .w, .p], a.setWidth 8⟩, (· + 1#8)),
        (⟨.incIx, [0x20#8 + 14#8], [.r, .f, .w, .p], 0x0E#8⟩, (· + 1#8)),
        (⟨.incX, [0x20#8 + 15#8], [.r, .f, .w, .p], 0x0F#8⟩, (· + 1#8)),
        (⟨.decDir dd, [0x3A#8, dd], [.r, .f, .w, .p, .p], dd⟩, (· - 1#8)),
        (⟨.decTny a, [0x50#8 + a.setWidth 8], [.r, .f, .w, .p], a.setWidth 8⟩, (· - 1#8)),
        (⟨.decIx, [0x50#8 + 14#8], [.r, .f, .w, .p], 0x0E#8⟩, (· - 1#8)),
        (⟨.decX, [0x50#8 + 15#8], [.r, .f, .w, .p], 0x0F#8⟩, (· - 1#8))] : List (Form × (Byte → Byte))),
    f.1.fits ∧ f.1.traps s ∧
      (s.legal f.1.operand → ∃ t, exec f.1.instr s = .next t ∧
        ByteStored s { s with pc := s.pc + f.1.len, z := decide (f.2 (s.operandByte f.1.operand) = 0#8),
                              forcedRequest := s.forcedRequest || s.breakpointHit (s.resolve f.1.operand),
                              freeCount := s.freeCount + s.draws (s.resolve f.1.operand),
                              stores := s.storesAfter (s.resolve f.1.operand) (s.pc + f.1.len) }
          t (s.resolve f.1.operand) (f.2 (s.operandByte f.1.operand)))

/-- The model's stolen cycles (decisions D6 and D19, log 25), in run mode with no collision declared and no reply waiting, at every legal operand, with any list of
READ_BYTE, READ_BYTE_WS, WRITE_BYTE and WRITE_BYTE_WS commands at legal physical addresses (decision D8, log 15) waiting; of other commands it says nothing. Each
does in its turn what it does alone (hostAccesses: a read gives the byte there, a write stores its byte, the status in the WS forms with WSF 0, decision D12, log
19), after the instruction's read and before its write: INC, DEC, BSET, BCLR and DBNZ store what they make of the byte that was there before the commands, and MOV,
LDX, STX and TST store that byte, where the destination is RAM, X or PAGESEL (elsewhere the byte stays: decision D14, log 12, and log 11, a DESIGN CHOICE), so that a
byte the host writes to that destination is lost; every other byte is the one the commands leave; the host gets their replies in order; the next state is otherwise
the one without the commands, but for WSF, the record of stores, which is the model's own (log 13, log 38), and the free values drawn (log 34). (The destination is
resolved when it is written, R73: what the host writes must not move it, which only a write to X or PAGESEL can.) The commands are then done. [20_memory R79, R73, R64, 10_state R46, 92_eei_decisions D6, D8, D12, D14, D19, 47_bdc_commands R279, R295, R300] -/
def Obligations.StolenCycleFallsBetweenReadAndWrite : Prop :=
  ∀ (s : State) (n : BitVec 3) (dd ss rr : Byte) (a : BitVec 4) (hs : List HostAccess), s.mem.wf = true → s.mode = .run → s.collision = false → s.reply = [] →
    s.stolen = hs.map HostAccess.command → (∀ h ∈ hs, s.dev.kindAt h.address ≠ .illegal) →
    (∀ f ∈ ([(.incDir dd, dd, (· + 1#8)), (.incTny a, a.setWidth 8, (· + 1#8)), (.incIx, 0x0E#8, (· + 1#8)), (.incX, 0x0F#8, (· + 1#8)),
        (.decDir dd, dd, (· - 1#8)), (.decTny a, a.setWidth 8, (· - 1#8)), (.decIx, 0x0E#8, (· - 1#8)), (.decX, 0x0F#8, (· - 1#8)),
        (.bset n dd, dd, (· ||| 1#8 <<< n.toNat)), (.bsetIx n, 0x0E#8, (· ||| 1#8 <<< n.toNat)), (.bsetX n, 0x0F#8, (· ||| 1#8 <<< n.toNat)),
        (.bclr n dd, dd, (· &&& ~~~(1#8 <<< n.toNat))), (.bclrIx n, 0x0E#8, (· &&& ~~~(1#8 <<< n.toNat))), (.bclrX n, 0x0F#8, (· &&& ~~~(1#8 <<< n.toNat))),
        (.dbnzDir dd rr, dd, (· - 1#8)), (.dbnzIx rr, 0x0E#8, (· - 1#8)), (.dbnzX rr, 0x0F#8, (· - 1#8))] : List (Instr × Byte × (Byte → Byte))),
      s.legal f.2.1 → (State.hostAccesses hs (s.afterOperand f.2.1)).1.resolve f.2.1 = s.resolve f.2.1 →
      ∃ t u, exec f.1 { s with stolen := [] } = .next t ∧ exec f.1 s = .next u ∧
        u.byteAt (s.resolve f.2.1) = (if s.dev.kindAt (s.resolve f.2.1) = .ram then f.2.2 (s.operandByte f.2.1) else s.byteAt (s.resolve f.2.1)) ∧
        (∀ q, q ≠ s.resolve f.2.1 → u.byteAt q = (State.hostAccesses hs (s.afterOperand f.2.1)).1.byteAt q) ∧
        u = { t with x := u.x, pagesel := u.pagesel, mem := u.mem, stores := u.stores, sent := s.sent ++ (State.hostAccesses hs (s.afterOperand f.2.1)).2,
                     freeCount := (State.hostAccesses hs (s.afterOperand f.2.1)).1.freeCount, bdcscr := { t.bdcscr with wsf := s.bdcscr.wsf && hs.isEmpty } }) ∧
    (∀ f ∈ ([(.movDir ss dd, ss, dd), (.ldxDir ss, ss, 0x0F#8), (.ldxIx, 0x0E#8, 0x0F#8), (.stxDir dd, 0x0F#8, dd), (.movIxDir dd, 0x0E#8, dd), (.movDirIx ss, ss, 0x0E#8),
        (.tstDir dd, dd, dd), (.tstIx, 0x0E#8, 0x0E#8), (.tstX, 0x0F#8, 0x0F#8)] : List (Instr × Byte × Byte)),
      s.legal f.2.1 → s.legal f.2.2 → (State.hostAccesses hs (s.afterOperand f.2.1)).1.resolve f.2.2 = s.resolve f.2.2 →
      ∃ t u, exec f.1 { s with stolen := [] } = .next t ∧ exec f.1 s = .next u ∧
        u.byteAt (s.resolve f.2.2) = (if s.dev.kindAt (s.resolve f.2.2) = .ram then s.operandByte f.2.1 else s.byteAt (s.resolve f.2.2)) ∧
        (∀ q, q ≠ s.resolve f.2.2 → u.byteAt q = (State.hostAccesses hs (s.afterOperand f.2.1)).1.byteAt q) ∧
        u = { t with x := u.x, pagesel := u.pagesel, mem := u.mem, stores := u.stores, sent := s.sent ++ (State.hostAccesses hs (s.afterOperand f.2.1)).2,
                     freeCount := (State.hostAccesses hs (s.afterOperand f.2.1)).1.freeCount, bdcscr := { t.bdcscr with wsf := s.bdcscr.wsf && hs.isEmpty } })

/-- For every state and operand: bytes and access detail are the table's; an illegal address resets; else with n the sum of A, the byte read and, for ADC, C, A is n
modulo 256, C is set exactly where n is 256 or more, Z exactly where A is $00; memory and every other field stay, but the breakpoint request, which an access to the
breakpoint's address sets (R355), and the count of free values drawn (log 34): a peripheral register, or an address nothing implements, gives a free value (log 11, a
DESIGN CHOICE). Covers direct, tiny (ADD), ,X and X. [41_math R170, R172, R174, R175, R192, 60_exceptions R325] -/
def Obligations.AddFromMemory : Prop :=
  ∀ (s : State) (dd : Byte) (a : BitVec 4), ∀ f ∈ ([(⟨.adcDir dd, [0xB9#8, dd], [.r, .p, .p], dd⟩, s.c.toNat),
        (⟨.adcIx, [0xB9#8, 0x0E#8], [.r, .p, .p], 0x0E#8⟩, s.c.toNat),
        (⟨.adcX, [0xB9#8, 0x0F#8], [.r, .p, .p], 0x0F#8⟩, s.c.toNat),
        (⟨.addDir dd, [0xBB#8, dd], [.r, .p, .p], dd⟩, 0),
        (⟨.addTny a, [0x60#8 + a.setWidth 8], [.r, .f, .p], a.setWidth 8⟩, 0),
        (⟨.addIx, [0x60#8 + 14#8], [.r, .f, .p], 0x0E#8⟩, 0),
        (⟨.addX, [0x60#8 + 15#8], [.r, .f, .p], 0x0F#8⟩, 0)] : List (Form × Nat)),
    f.1.fits ∧ f.1.traps s ∧ (s.legal f.1.operand → exec f.1.instr s = .next { s.afterOperand f.1.operand with 
        pc := s.pc + f.1.len, a := BitVec.ofNat 8 (s.a.toNat + (s.operandByte f.1.operand).toNat + f.2),
        c := decide (256 ≤ s.a.toNat + (s.operandByte f.1.operand).toNat + f.2),
        z := decide ((s.a.toNat + (s.operandByte f.1.operand).toNat + f.2) % 256 = 0) })

/-- For every state and operand: bytes and access detail are the table's; an illegal address resets; else A is A minus the byte read minus, for SBC, C, modulo 256; C is
set exactly where byte plus carry is larger than A, unsigned; Z exactly where the result is $00; memory and every other field stay, but the breakpoint request, which
an access to the breakpoint's address sets (R355), and the count of free values drawn (log 34): a peripheral register, or an address nothing implements, gives a free
value (log 11, a DESIGN CHOICE). Covers direct, tiny (SUB), ,X and X. [41_math R170, R177, R179, R180, R192, 60_exceptions R325] -/
def Obligations.SubtractFromMemory : Prop :=
  ∀ (s : State) (dd : Byte) (a : BitVec 4), ∀ f ∈ ([(⟨.sbcDir dd, [0xB2#8, dd], [.r, .p, .p], dd⟩, s.c.toNat),
        (⟨.sbcIx, [0xB2#8, 0x0E#8], [.r, .p, .p], 0x0E#8⟩, s.c.toNat),
        (⟨.sbcX, [0xB2#8, 0x0F#8], [.r, .p, .p], 0x0F#8⟩, s.c.toNat),
        (⟨.subDir dd, [0xB0#8, dd], [.r, .p, .p], dd⟩, 0),
        (⟨.subTny a, [0x70#8 + a.setWidth 8], [.r, .f, .p], a.setWidth 8⟩, 0),
        (⟨.subIx, [0x70#8 + 14#8], [.r, .f, .p], 0x0E#8⟩, 0),
        (⟨.subX, [0x70#8 + 15#8], [.r, .f, .p], 0x0F#8⟩, 0)] : List (Form × Nat)),
    f.1.fits ∧ f.1.traps s ∧ (s.legal f.1.operand → exec f.1.instr s = .next { s.afterOperand f.1.operand with 
        pc := s.pc + f.1.len, a := s.a - s.operandByte f.1.operand - BitVec.ofNat 8 f.2,
        c := decide (s.a.toNat < (s.operandByte f.1.operand).toNat + f.2),
        z := decide (s.a - s.operandByte f.1.operand - BitVec.ofNat 8 f.2 = 0#8) })

/-- For every state and operand: bytes and access detail are the table's; an illegal address resets; else Z is set exactly where A equals the byte read and C exactly
where A is lower unsigned; A, memory and every other field stay, but the breakpoint request, which an access to the breakpoint's address sets (R355), and the count
of free values drawn (log 34): a peripheral register, or an address nothing implements, gives a free value (log 11, a DESIGN CHOICE). Covers direct, ,X and X. [41_math R191, R194, 60_exceptions R325, R355] -/
def Obligations.CompareWithMemory : Prop :=
  ∀ (s : State) (dd : Byte), ∀ f ∈ ([⟨.cmpDir dd, [0xB1#8, dd], [.r, .p, .p], dd⟩,
        ⟨.cmpIx, [0xB1#8, 0x0E#8], [.r, .p, .p], 0x0E#8⟩,
        ⟨.cmpX, [0xB1#8, 0x0F#8], [.r, .p, .p], 0x0F#8⟩] : List Form),
    f.fits ∧ f.traps s ∧ (s.legal f.operand → exec f.instr s = .next { s.afterOperand f.operand with 
        pc := s.pc + f.len, c := decide (s.a < s.operandByte f.operand), z := decide (s.a = s.operandByte f.operand) })

/-- For every state and immediate byte: bytes and access detail are the table's and the instruction completes, with A, C and Z by the exact sum or difference; CMP leaves
A; every other field stays. Never a reset. [R171, R173, R176, R178, R190] -/
def Obligations.ArithmeticImmediate : Prop :=
  ∀ (s : State) (ii : Byte),
    Runs (.adcImm ii) [0xA9#8, ii] [.p, .p] s { s with pc := s.pc + 2, a := BitVec.ofNat 8 (s.a.toNat + ii.toNat + s.c.toNat), c := decide (256 ≤ s.a.toNat + ii.toNat + s.c.toNat), z := decide ((s.a.toNat + ii.toNat + s.c.toNat) % 256 = 0) } ∧
    Runs (.addImm ii) [0xAB#8, ii] [.p, .p] s { s with pc := s.pc + 2, a := s.a + ii, c := decide (256 ≤ s.a.toNat + ii.toNat), z := decide (s.a + ii = 0#8) } ∧
    Runs (.sbcImm ii) [0xA2#8, ii] [.p, .p] s { s with pc := s.pc + 2, a := s.a - ii - BitVec.ofNat 8 s.c.toNat, c := decide (s.a.toNat < ii.toNat + s.c.toNat), z := decide (s.a - ii - BitVec.ofNat 8 s.c.toNat = 0#8) } ∧
    Runs (.subImm ii) [0xA0#8, ii] [.p, .p] s { s with pc := s.pc + 2, a := s.a - ii, c := decide (s.a < ii), z := decide (s.a = ii) } ∧
    Runs (.cmpImm ii) [0xA1#8, ii] [.p, .p] s { s with pc := s.pc + 2, c := decide (s.a < ii), z := decide (s.a = ii) }

/-- For every A, M and carry in: C of add8 is A7&M7 | M7&~R7 | ~R7&A7, C of sub8 is ~A7&M7 | M7&R7 | R7&~A7, with R the result, and Z of any result is the AND of its
complemented bits. The spec marks these formulae as derived from R170. [41_math R197, R170] -/
def Obligations.CarryFormulas : Prop :=
  (∀ (a m : Byte) (c : Bool),
      (add8 a m c).2 = (a.getLsbD 7 && m.getLsbD 7 || m.getLsbD 7 && !(add8 a m c).1.getLsbD 7 || !(add8 a m c).1.getLsbD 7 && a.getLsbD 7) ∧
      (sub8 a m c).2 = (!a.getLsbD 7 && m.getLsbD 7 || m.getLsbD 7 && (sub8 a m c).1.getLsbD 7 || (sub8 a m c).1.getLsbD 7 && !a.getLsbD 7)) ∧
    (∀ r : Byte, zeroFlag r = (!r.getLsbD 7 && !r.getLsbD 6 && !r.getLsbD 5 && !r.getLsbD 4 && !r.getLsbD 3 && !r.getLsbD 2 && !r.getLsbD 1 && !r.getLsbD 0))

/-- For every state and all bytes: ADD of the low bytes, a load of the first high byte, which leaves C, and ADC of the second give the two bytes of the 17-bit sum with
its carry; SUB, LDA and SBC give the two bytes of the difference and its borrow. The first result is read in A after the first instruction. [41_math R198, R170] -/
def Obligations.SixteenBitArithmeticByCarry : Prop :=
  ∀ (s : State) (h l h' l' : Byte),
    (∃ t u v, exec (.addImm l') { s with a := l } = .next t ∧ exec (.ldaImm h) t = .next u ∧ exec (.adcImm h') u = .next v ∧
      v.c.toNat * 65536 + v.a.toNat * 256 + t.a.toNat = (h.toNat * 256 + l.toNat) + (h'.toNat * 256 + l'.toNat)) ∧
    (∃ t u v, exec (.subImm l') { s with a := l } = .next t ∧ exec (.ldaImm h) t = .next u ∧ exec (.sbcImm h') u = .next v ∧
      v.a.toNat * 256 + t.a.toNat + (h'.toNat * 256 + l'.toNat) = v.c.toNat * 65536 + (h.toNat * 256 + l.toNat))

/-- For every state and immediate byte: bytes and access detail are the table's and the instruction completes; A is the byte, or A combined with it bit by bit; INCA and
DECA count modulo 256, CLRA gives $00 and Z 1, COMA the one's complement with C 1; Z is set exactly where A is then $00; every other field stays. [R141, R201, R203, R205, R195, R183, R186, R189, R207] -/
def Obligations.AccumulatorOperations : Prop :=
  ∀ (s : State) (ii : Byte),
    Runs (.ldaImm ii) [0xA6#8, ii] [.p, .p] s { s with pc := s.pc + 2, a := ii, z := decide (ii = 0#8) } ∧
    Runs (.andImm ii) [0xA4#8, ii] [.p, .p] s { s with pc := s.pc + 2, a := s.a &&& ii, z := decide (s.a &&& ii = 0#8) } ∧
    Runs (.oraImm ii) [0xAA#8, ii] [.p, .p] s { s with pc := s.pc + 2, a := s.a ||| ii, z := decide (s.a ||| ii = 0#8) } ∧
    Runs (.eorImm ii) [0xA8#8, ii] [.p, .p] s { s with pc := s.pc + 2, a := s.a ^^^ ii, z := decide (s.a ^^^ ii = 0#8) } ∧
    Runs .tsta [0xAA#8, 0x00#8] [.p, .p] s { s with pc := s.pc + 2, z := decide (s.a = 0#8) } ∧
    Runs .inca [0x4C#8] [.p] s { s with pc := s.pc + 1, a := s.a + 1, z := decide (s.a = 0xFF#8) } ∧
    Runs .deca [0x4A#8] [.p] s { s with pc := s.pc + 1, a := s.a - 1, z := decide (s.a = 0x01#8) } ∧
    Runs .clra [0x4F#8] [.p] s { s with pc := s.pc + 1, a := 0#8, z := true } ∧
    Runs .coma [0x43#8] [.p] s { s with pc := s.pc + 1, a := 0xFF#8 - s.a, z := decide (s.a = 0xFF#8), c := true }

/-- For every state and operand: bytes and access detail are the table's; an illegal address resets; else A is the byte read, or A combined with it bit by bit, Z is set
exactly where A is then $00, and C, memory and every other field stay, but the breakpoint request, which an access to the breakpoint's address sets (R355), and the
count of free values drawn (log 34): a peripheral register, or an address nothing implements, gives a free value (log 11, a DESIGN CHOICE). Covers LDA direct, short
and ,X, TXA, and AND, ORA and EOR direct, ,X and X; TSTA is the immediate ORA #$00. [40_data_movement R142, R143, R153, 42_logical R202, R204, R206, R208, 41_math R195, 60_exceptions R325, R355] -/
def Obligations.LoadAndLogicFromMemory : Prop :=
  ∀ (s : State) (dd : Byte) (a : BitVec 5), (∀ f ∈ ([(⟨.ldaDir dd, [0xB6#8, dd], [.r, .p, .p], dd⟩, fun _ m => m),
        (⟨.ldaSrt a, [0xC0#8 + a.setWidth 8], [.r, .f, .p], a.setWidth 8⟩, fun _ m => m),
        (⟨.ldaIx, [0xCE#8], [.r, .f, .p], 0x0E#8⟩, fun _ m => m),
        (⟨.txa, [0xCF#8], [.r, .f, .p], 0x0F#8⟩, fun _ m => m),
        (⟨.andDir dd, [0xB4#8, dd], [.r, .p, .p], dd⟩, (· &&& ·)),
        (⟨.andIx, [0xB4#8, 0x0E#8], [.r, .p, .p], 0x0E#8⟩, (· &&& ·)),
        (⟨.andX, [0xB4#8, 0x0F#8], [.r, .p, .p], 0x0F#8⟩, (· &&& ·)),
        (⟨.oraDir dd, [0xBA#8, dd], [.r, .p, .p], dd⟩, (· ||| ·)),
        (⟨.oraIx, [0xBA#8, 0x0E#8], [.r, .p, .p], 0x0E#8⟩, (· ||| ·)),
        (⟨.oraX, [0xBA#8, 0x0F#8], [.r, .p, .p], 0x0F#8⟩, (· ||| ·)),
        (⟨.eorDir dd, [0xB8#8, dd], [.r, .p, .p], dd⟩, (· ^^^ ·)),
        (⟨.eorIx, [0xB8#8, 0x0E#8], [.r, .p, .p], 0x0E#8⟩, (· ^^^ ·)),
        (⟨.eorX, [0xB8#8, 0x0F#8], [.r, .p, .p], 0x0F#8⟩, (· ^^^ ·))] : List (Form × (Byte → Byte → Byte))),
    f.1.fits ∧ f.1.traps s ∧ (s.legal f.1.operand → exec f.1.instr s = .next { s.afterOperand f.1.operand with 
        pc := s.pc + f.1.len, a := f.2 s.a (s.operandByte f.1.operand), z := decide (f.2 s.a (s.operandByte f.1.operand) = 0#8) })) ∧
    Runs .tsta [0xAA#8, 0x00#8] [.p, .p] s { s with pc := s.pc + 2, z := decide (s.a = 0#8) }

/-- For every state: bytes and access detail are the table's and the instruction completes; as numbers the new A with the new C is: LSLA and ASLA, C*256 + A = 2*A; ROLA,
2*A + C; LSRA, A = A/2 with C the old bit 0; RORA the same with the old C as bit 7. Z is set exactly where the new A is $00; every other field stays. Nine rotations
left through the carry give A and C back. [R211, R212, R213, R214, R215] -/
def Obligations.ShiftsAndRotates : Prop :=
  ∀ s : State,
    (∀ i ∈ [Instr.lsla, .asla], Runs i [0x48#8] [.p] s { s with pc := s.pc + 1, a := BitVec.ofNat 8 (2 * s.a.toNat), c := decide (256 ≤ 2 * s.a.toNat), z := decide (2 * s.a.toNat % 256 = 0) }) ∧
    Runs .lsra [0x44#8] [.p] s { s with pc := s.pc + 1, a := BitVec.ofNat 8 (s.a.toNat / 2), c := decide (s.a.toNat % 2 = 1), z := decide (s.a.toNat / 2 = 0) } ∧
    Runs .rola [0x49#8] [.p] s { s with pc := s.pc + 1, a := BitVec.ofNat 8 (2 * s.a.toNat + s.c.toNat), c := decide (256 ≤ 2 * s.a.toNat), z := decide ((2 * s.a.toNat + s.c.toNat) % 256 = 0) } ∧
    Runs .rora [0x46#8] [.p] s { s with pc := s.pc + 1, a := BitVec.ofNat 8 (128 * s.c.toNat + s.a.toNat / 2), c := decide (s.a.toNat % 2 = 1), z := decide (128 * s.c.toNat + s.a.toNat / 2 = 0) } ∧
    Nat.iterate (fun r : Byte × Bool => shiftLeft8 r.1 r.2) 9 (s.a, s.c) = (s.a, s.c)

/-- For every state and offset: bytes and access detail are the table's and the branch completes; where its condition holds PC is the address after the branch plus the
sign-extended offset modulo 2^14, else that address; nothing else changes but the model's own record of stores, which a taken branch, BRN among them, clears (log 13,
a DESIGN CHOICE of the model). [44_branch_loop R222, R223, R224, R225, R226, R227, R228, R229] -/
def Obligations.SimpleBranches : Prop :=
  ∀ (s : State) (rr : Byte),
    (∀ i ∈ ([(.bra rr, 0x30#8, true), (.bcc rr, 0x34#8, !s.c), (.bcs rr, 0x35#8, s.c), (.bne rr, 0x36#8, !s.z), (.beq rr, 0x37#8, s.z), (.bhs rr, 0x34#8, !s.c), (.blo rr, 0x35#8, s.c)] : List (Instr × Byte × Bool)),
      Runs i.1 [i.2.1, rr] [.p, .p, .p] s
        (if i.2.2 then { s with pc := s.pc + 2 + rr.signExtend 14, stores := [] } else { s with pc := s.pc + 2 })) ∧
    Runs .brn [0x30#8, 0x00#8] [.p, .p, .p] s { s with pc := s.pc + 2, stores := [] }

/-- For every state, bit number, operand and offset: bytes and access detail are the table's; an illegal address resets; else C is bit n of the byte read, whether or not
the branch is taken, PC is the target where the bit is 1 (BRSET) or 0 (BRCLR) and the next instruction otherwise; Z, A, memory and every other field stay, but the
breakpoint request, which an access to the breakpoint's address sets (R355), and the count of free values drawn (log 34): a peripheral register, or an address
nothing implements, gives a free value (log 11, a DESIGN CHOICE), and the model's own record of stores, which a taken branch clears (log 13, a DESIGN CHOICE). [44_branch_loop R230, R231, R232] -/
def Obligations.BranchOnBit : Prop :=
  ∀ (s : State) (n : BitVec 3) (dd rr : Byte), ∀ f ∈ ([(⟨.brset n dd rr, [0x00#8 + 2 * n.setWidth 8, dd, rr], [.r, .p, .p, .p, .p], dd⟩, true),
        (⟨.brsetIx n rr, [0x00#8 + 2 * n.setWidth 8, 0x0E#8, rr], [.r, .p, .p, .p, .p], 0x0E#8⟩, true),
        (⟨.brsetX n rr, [0x00#8 + 2 * n.setWidth 8, 0x0F#8, rr], [.r, .p, .p, .p, .p], 0x0F#8⟩, true),
        (⟨.brclr n dd rr, [0x01#8 + 2 * n.setWidth 8, dd, rr], [.r, .p, .p, .p, .p], dd⟩, false),
        (⟨.brclrIx n rr, [0x01#8 + 2 * n.setWidth 8, 0x0E#8, rr], [.r, .p, .p, .p, .p], 0x0E#8⟩, false),
        (⟨.brclrX n rr, [0x01#8 + 2 * n.setWidth 8, 0x0F#8, rr], [.r, .p, .p, .p, .p], 0x0F#8⟩, false)] : List (Form × Bool)),
    f.1.fits ∧ f.1.traps s ∧ (s.legal f.1.operand → exec f.1.instr s = .next
      (if (s.operandByte f.1.operand).getLsbD n.toNat = f.2
        then { s.afterOperand f.1.operand with pc := s.pc + 3 + rr.signExtend 14, c := f.2, stores := [] }
        else { s.afterOperand f.1.operand with pc := s.pc + 3, c := !f.2 }))

/-- For every state, operand and offset: bytes and access detail are the table's; an illegal address resets; else PC is the target where A equals the byte and the next
instruction otherwise; Z, C, A, X and every other field stay, but the breakpoint request, which an access to the breakpoint's address sets (R355), and the count of
free values drawn (log 34): a peripheral register, or an address nothing implements, gives a free value (log 11, a DESIGN CHOICE), and the model's own record of
stores, which a taken branch clears (log 13, a DESIGN CHOICE). CBEQA reads no memory. [44_branch_loop R233, R234, R236] -/
def Obligations.CompareAndBranch : Prop :=
  ∀ (s : State) (dd ii rr : Byte), (∀ f ∈ ([⟨.cbeqDir dd rr, [0x31#8, dd, rr], [.r, .p, .p, .p, .p], dd⟩,
        ⟨.cbeqIx rr, [0x31#8, 0x0E#8, rr], [.r, .p, .p, .p, .p], 0x0E#8⟩,
        ⟨.cbeqX rr, [0x31#8, 0x0F#8, rr], [.r, .p, .p, .p, .p], 0x0F#8⟩] : List Form),
    f.fits ∧ f.traps s ∧ (s.legal f.operand → exec f.instr s = .next
      (if s.a = s.operandByte f.operand then { s.afterOperand f.operand with pc := s.pc + 3 + rr.signExtend 14, stores := [] }
        else { s.afterOperand f.operand with pc := s.pc + 3 }))) ∧
    Runs (.cbeqa ii rr) [0x41#8, ii, rr] [.p, .p, .p, .p] s
      (if s.a = ii then { s with pc := s.pc + 3 + rr.signExtend 14, stores := [] } else { s with pc := s.pc + 3 })

/-- For every state with canonical memory and no command waiting for a stolen cycle, and every operand and offset: bytes and access detail are the table's; an illegal
address resets; else the byte less 1 modulo 256 is stored back where the location is RAM, X or PAGESEL (elsewhere the byte stays: decision D14, log 12, and log 11, a
DESIGN CHOICE of the model), PC is the target where the result is not $00 and the next instruction where it is; Z, C, A and every other byte and field stay, but the
breakpoint request, which an access to the breakpoint's address sets (R355), the count of free values drawn (log 34): a peripheral register, or an address nothing
implements, gives a free value (log 11, a DESIGN CHOICE), and the record of stores, which is the model's own (log 13, a DESIGN CHOICE): the store is added to it
where the branch is not taken, and a taken branch clears it. DBNZA does the same with A and no memory, and its taken branch clears the record too. [44_branch_loop R235, R237, R238, 20_memory R64, 60_exceptions R325, R355, 92_eei_decisions D14] -/
def Obligations.DecrementAndBranch : Prop :=
  ∀ (s : State) (dd rr : Byte), s.mem.wf = true → s.stolen = [] →
    (∀ f ∈ ([⟨.dbnzDir dd rr, [0x3B#8, dd, rr], [.r, .f, .w, .p, .p, .p, .p], dd⟩,
        ⟨.dbnzIx rr, [0x3B#8, 0x0E#8, rr], [.r, .f, .w, .p, .p, .p, .p], 0x0E#8⟩,
        ⟨.dbnzX rr, [0x3B#8, 0x0F#8, rr], [.r, .f, .w, .p, .p, .p, .p], 0x0F#8⟩] : List Form),
      f.fits ∧ f.traps s ∧ (s.legal f.operand → ∃ t, exec f.instr s = .next t ∧
        ByteStored s
          { s with pc := if s.operandByte f.operand - 1 = 0#8 then s.pc + 3 else s.pc + 3 + rr.signExtend 14,
                   forcedRequest := s.forcedRequest || s.breakpointHit (s.resolve f.operand),
                   freeCount := s.freeCount + s.draws (s.resolve f.operand),
                   stores := if s.operandByte f.operand - 1 = 0#8 then s.storesAfter (s.resolve f.operand) (s.pc + 3) else [] }
          t (s.resolve f.operand) (s.operandByte f.operand - 1))) ∧
    Runs (.dbnza rr) [0x4B#8, rr] [.f, .p, .p, .p] s
      (if s.a = 1#8 then { s with pc := s.pc + 2, a := 0#8 } else { s with pc := s.pc + 2 + rr.signExtend 14, a := s.a - 1, stores := [] })

/-- For every state, offset and address: bytes and access detail are the table's and the instruction completes; the calls save the address after them in SPC, RTS copies
SPC to PC and keeps it (R252 derives that it keeps it); no flag, no byte of memory and no other field changes, but the model's own record of stores, which a change
of flow clears (log 13, a DESIGN CHOICE). Bits 7 and 6 of the high address byte do not reach the target (decision D2, log 14). [44_branch_loop R221, 45_subroutine R250, R251, R252, 92_eei_decisions D2] -/
def Obligations.JumpsAndSubroutines : Prop :=
  ∀ (s : State) (rr hh ll : Byte),
    decodeOp 0xBC#8 hh ll = .jmp ((hh ++ ll).setWidth 14) ∧ decodeOp 0xBD#8 hh ll = .jsr ((hh ++ ll).setWidth 14) ∧
    accessDetail (.jmp ((hh ++ ll).setWidth 14)) = [.f, .p, .p, .p] ∧ accessDetail (.jsr ((hh ++ ll).setWidth 14)) = [.f, .p, .p, .p] ∧
    exec (.jmp ((hh ++ ll).setWidth 14)) s = .next { s with pc := (hh ++ ll).setWidth 14, stores := [] } ∧
    exec (.jsr ((hh ++ ll).setWidth 14)) s = .next { s with pc := (hh ++ ll).setWidth 14, spc := s.pc + 3, stores := [] } ∧
    Runs (.bsr rr) [0xAD#8, rr] [.p, .p, .p] s { s with pc := s.pc + 2 + rr.signExtend 14, spc := s.pc + 2, stores := [] } ∧
    Runs .rts [0xBE#8] [.p, .p, .p] s { s with pc := s.spc, stores := [] }

/-- For every state: bytes and access detail are the table's and the instruction completes; SHA gives A two zero bits and SPC[13:8], and SPC[13:8] the low six bits of A,
SPC[7:0] unchanged; SLA exchanges A and SPC[7:0], SPC[13:8] unchanged; no flag and no other field changes. Two SHA restore SPC and leave A with its top two bits
cleared. [R253, R254] -/
def Obligations.ShadowCounterSwaps : Prop :=
  ∀ s : State,
    (∃ t, Runs .sha [0x45#8] [.p] s t ∧ t = { s with pc := s.pc + 1, a := t.a, spc := t.spc } ∧ t.a.toNat = s.spc.toNat / 256 ∧
      t.spc.toNat = s.a.toNat % 64 * 256 + s.spc.toNat % 256 ∧
      ∃ u, exec .sha t = .next u ∧ u.spc = s.spc ∧ u.a = s.a &&& 0x3F#8) ∧
    (∃ t, Runs .sla [0x42#8] [.p] s t ∧ t = { s with pc := s.pc + 1, a := t.a, spc := t.spc } ∧ t.a.toNat = s.spc.toNat % 256 ∧
      t.spc.toNat = s.spc.toNat / 256 * 256 + s.a.toNat)

/-- For every state: bytes and access detail are the table's and the instruction completes; NOP advances PC and nothing else, SEC sets C, CLC clears it, with every other
field as it was. [R260, R261, R262] -/
def Obligations.FlagAndNoOperation : Prop :=
  ∀ s : State,
    Runs .nop [0xAC#8] [.p] s { s with pc := s.pc + 1 } ∧ Runs .sec [0x39#8] [.p] s { s with pc := s.pc + 1, c := true } ∧
    Runs .clc [0x38#8] [.p] s { s with pc := s.pc + 1, c := false }

/-- For every state: bytes and access detail are the table's; with ENBDM 1 the next state has PC past the BGND, BDMACT 1, active background mode and no request of the
debug logic left, every other field as it was; with ENBDM 0 the machine takes the illegal-opcode reset. [R263, R324] -/
def Obligations.BackgroundInstruction : Prop :=
  ∀ s : State,
    encode .bgnd = [0xBF#8] ∧ accessDetail .bgnd = [.f, .f, .f, .p, .p, .p] ∧
    (s.bdcscr.enbdm = true → exec .bgnd s = .next { s with pc := s.pc + 1, mode := .background, bdcscr := { s.bdcscr with bdmact := true }, tag := false, forcedRequest := false, backgroundRequest := false, trace := false }) ∧
    (s.bdcscr.enbdm = false → exec .bgnd s = .next (takeReset .illegalOpcode s))

/-- For every state: bytes and access detail are the table's and the instruction completes; PC is past it; without a wake-up request the mode is wait or stop and WS is
1; with one asserted the CPU stays in run mode (decision D9; log 16 and log 37: WS is then not set). Nothing else changes but the model's own mark that the latest
instruction is a WAIT or STOP (log 26). [46_misc R264, R265, 60_exceptions R340, 92_eei_decisions D9] -/
def Obligations.WaitAndStop : Prop :=
  ∀ s : State, ∀ i ∈ ([(.wait, 0xAF#8, .wait), (.stop, 0xAE#8, .stop)] : List (Instr × Byte × Mode)),
    Runs i.1 [i.2.1] [.f, .p] s
      (if s.wakeRequest then { s with pc := s.pc + 1, afterSleep := true }
        else { s with pc := s.pc + 1, mode := i.2.2, bdcscr := { s.bdcscr with ws := true }, afterSleep := true })

/-- For every state in wait or stop: with no input and no request a step changes nothing; with a request asserted a step gives run mode and WS 0 and changes nothing
else, PC among it; the input that asserts the request does the same and leaves the request asserted. In run and active background mode the request changes nothing
but itself. [60_exceptions R333, R340, 10_state R46, 92_eei_decisions D9] -/
def Obligations.WakeUpResumes : Prop :=
  ∀ (s : State) (rest : List Input),
    (s.asleep = true → s.env = [] → s.wakeRequest = false → step s = .next s) ∧
    (s.asleep = true → s.env = [] → s.wakeRequest = true → step s = .next { s with mode := .run, bdcscr := { s.bdcscr with ws := false } }) ∧
    (s.asleep = true → s.env = .wake true :: rest →
      step s = .next { s with env := rest, wakeRequest := true, mode := .run, bdcscr := { s.bdcscr with ws := false } }) ∧
    (∀ level, s.mode = .run ∨ s.mode = .background → s.env = .wake level :: rest → step s = .next { s with env := rest, wakeRequest := level })

/-- For every cause and every state, and for the state the model starts from: after the reset A is $00, SPC is $3FFD and X is $00. [R22, R28, R35] -/
def Obligations.ResetTakesTheseValues : Prop :=
  (∀ (cause : ResetCause) (s : State), (takeReset cause s).a = 0x00#8 ∧ (takeReset cause s).spc = 0x3FFD#14 ∧ (takeReset cause s).x = 0x00#8) ∧
    State.reset.a = 0x00#8 ∧ State.reset.spc = 0x3FFD#14 ∧ State.reset.x = 0x00#8

/-- For every cause and state: PC is $3FFD, Z and C 0, no request, tag or command of the debug logic is left; with BKGD high the mode is run and every field of BDCSCR is
0; with BKGD low the mode is active background, ENBDM and BDMACT are 1, BKPTEN is 0, and FTS, WS and WSF are those of the parameter BDCSCR_RESET_BKGD_LOW, which the
spec fixes to $C0 (R47), so that they are 0 and the byte is $C0 on a device with that value, as that of State.reset is (log 41); memory, the device, the inputs and
what the host has received stay; the cause is recorded. PAGESEL and BDCBKPT take the device's reset values, which the spec leaves open (log 7, log 8). The spec's own
decisions in this: no request left D15, BKGD sampled after every reset D25, RAM kept D26 (all log 20), FTS 0 D11 (log 18); that the state records the cause, and for
good that the run has gone wrong where the cause is an illegal opcode or an illegal address (R322, decision D23), is log 36. [70_reset_and_hazards R370, R372, R374, R371, 10_state R26, R32, R47, 60_exceptions R322, R327] -/
def Obligations.ResetSequence : Prop :=
  ∀ (cause : ResetCause) (s : State),
    (takeReset cause s).pc = 0x3FFD#14 ∧ (takeReset cause s).z = false ∧ (takeReset cause s).c = false ∧
    (takeReset cause s).wakeRequest = false ∧ (takeReset cause s).tag = false ∧ (takeReset cause s).forcedRequest = false ∧
    (takeReset cause s).backgroundRequest = false ∧ (takeReset cause s).trace = false ∧ (takeReset cause s).serial = .idle ∧ (takeReset cause s).reply = [] ∧
    (s.bkgdLowAtResetEnd = false → (takeReset cause s).mode = .run ∧ (takeReset cause s).bdcscr.toByte = 0x00#8) ∧
    (s.bkgdLowAtResetEnd = true → (takeReset cause s).mode = .background ∧ (takeReset cause s).bdcscr.toByte = 0xC0#8 ||| (s.dev.bdcscrResetBkgdLow &&& 0x16#8) ∧
      (s.dev.bdcscrResetBkgdLow = 0xC0#8 → (takeReset cause s).bdcscr.toByte = 0xC0#8)) ∧ State.reset.dev.bdcscrResetBkgdLow = 0xC0#8 ∧
    (takeReset cause s).mem = s.mem ∧ (takeReset cause s).dev = s.dev ∧ (takeReset cause s).env = s.env ∧ (takeReset cause s).sent = s.sent ∧
    (takeReset cause s).pagesel = s.dev.pageselReset ∧ (takeReset cause s).bdcbkpt = s.dev.bdcbkptReset ∧ (takeReset cause s).resetCause = cause ∧
    (takeReset cause s).wentWrong = (s.wentWrong || decide (cause = .illegalOpcode ∨ cause = .illegalAddress))

/-- For every state not in reset: the RESET pin and the low-voltage reset put the machine into the reset condition with the registers at their reset values and memory as
it was; the COP does so too unless BDMACT is 1, and then nothing happens; in the reset condition another of the three sources changes nothing (R329), the cause on
record among it, which stays that of the first (log 33, a DESIGN CHOICE), and a turn of the CPU changes nothing; the release, which the model has as one input that
stands for the last source let go (log 35, a DESIGN CHOICE; log 33), gives run mode, or active background mode with BKGD low. Release then gives what takeReset
gives. [60_exceptions R320, R321, R329, R340, 47_bdc_commands R296, 70_reset_and_hazards R374] -/
def Obligations.ResetInputs : Prop :=
  ∀ (s : State) (rest : List Input),
    (∀ source : ResetSource, s.env = .resetOn source :: rest → s.mode ≠ .reset → (source = .cop → s.bdcscr.bdmact = false) →
      ∃ t, step s = .next t ∧ t.mode = .reset ∧ t.pc = 0x3FFD#14 ∧ t.mem = s.mem ∧ t.env = rest ∧
        t.leaveReset = takeReset source.cause { s with env := rest }) ∧
    (s.env = .resetOn .cop :: rest → s.bdcscr.bdmact = true → step s = .next { s with env := rest }) ∧
    (∀ source : ResetSource, s.env = .resetOn source :: rest → s.mode = .reset → step s = .next { s with env := rest }) ∧
    (s.env = .cpu :: rest → s.mode = .reset → step s = .next { s with env := rest }) ∧
    (s.env = .resetOff :: rest → s.mode = .reset → step s = .next { s with env := rest }.leaveReset)

/-- For every state with canonical memory and every contents wanted for RAM, there is a power-on input after which each RAM byte reads as wanted and each flash byte as
before, in the reset condition with cause power-on (the model takes the contents as an input: log 20). [70_reset_and_hazards R374, 92_eei_decisions D26] -/
def Obligations.PowerOnGivesAnyRam : Prop :=
  ∀ (s : State) (rest : List Input) (want : Addr → Byte), s.mem.wf = true →
    ∃ ram : List Host.Cell, ∀ t, step { s with env := .powerOn ram :: rest } = .next t →
      t.mode = .reset ∧ t.resetCause = .por ∧ t.mem.wf = true ∧
      (∀ p : Addr, s.dev.kindAt p = .ram → p ≠ 0x000F#14 → p ≠ 0x001F#14 → t.byteAt p = want p) ∧
      (∀ p : Addr, s.dev.kindAt p = .flash → t.byteAt p = s.byteAt p)

/-- For every state in run mode with no input waiting, BKPTEN 1, FTS 0 and PC equal to BDCBKPT[13:0]: with ENBDM 1 a step enters active background mode with nothing
executed, PC at the tagged opcode and every register and byte as it was, even where the opcode is illegal or its address is (that the tag comes first is decision
D10; log 17, DEDUCED); with ENBDM 0 it takes the illegal-opcode reset, after which BKPTEN is 0; where PC is another address and no request is pending, the breakpoint
does not stop the CPU: the step runs the instruction. [60_exceptions R354, R356, R335, 92_eei_decisions D10] -/
def Obligations.TaggedBreakpoint : Prop :=
  ∀ s : State, s.env = [] → s.mode = .run → s.bdcscr.bkpten = true → s.bdcscr.fts = false →
    (s.pc = s.bdcbkpt.extractLsb' 0 14 → s.bdcscr.enbdm = true → step s = .next s.enterBackground ∧ s.enterBackground.pc = s.pc ∧ s.enterBackground.mode = .background) ∧
    (s.pc = s.bdcbkpt.extractLsb' 0 14 → s.bdcscr.enbdm = false → step s = .next (takeReset .illegalOpcode s) ∧ (takeReset .illegalOpcode s).bdcscr.bkpten = false) ∧
    (s.pc ≠ s.bdcbkpt.extractLsb' 0 14 → s.tag = false → s.forcedRequest = false → s.backgroundRequest = false → step s = runInstr s)

/-- For every state and address: a data read or write or a fetch of the CPU at the address BDCBKPT[13:0] with BKPTEN 1 and FTS 1 leaves the request set, an access to
another address or with BKPTEN 0 or FTS 0 leaves it as it was, and an access of the debug controller never sets it; at the boundary after an instruction in run mode
a pending request enters active background mode with ENBDM 1, PC as the instruction left it, and takes the illegal-opcode reset with ENBDM 0. [60_exceptions R355, R356, 92_eei_decisions D18] -/
def Obligations.ForcedBreakpoint : Prop :=
  ∀ (s t : State) (p : Addr) (v w : Byte),
    (physRead p s = .ok w t ∨ physWrite p v s = .ok () t ∨ fetch p s = .ok w t →
      t.forcedRequest = (s.forcedRequest || (s.bdcscr.bkpten && s.bdcscr.fts && decide (p = s.bdcbkpt.extractLsb' 0 14)))) ∧
    (bdcPhysRead p s = .ok w t ∨ bdcPhysWrite p v s = .ok () t → t.forcedRequest = s.forcedRequest) ∧
    (s.mode = .run → s.forcedRequest = true → s.trace = false →
      s.settle = if s.bdcscr.enbdm then s.enterBackground else takeReset .illegalOpcode s)

/-- For every state and control byte: the codes are E4 and C4; the reply of READ_STATUS has ENBDM, BDMACT, BKPTEN, FTS, WS and WSF at bits 7, 6, 5, 4, 2 and 1 and 0 at
bits 3 and 0 (decision D11; log 18), and nothing else changes; WRITE_CONTROL changes ENBDM, BKPTEN and FTS alone, from bits 7, 5 and 4, ENBDM only where BDMACT is 0;
READ_BKPT replies the 16 bits of BDCBKPT, high byte first, WRITE_BKPT stores all 16 (decision D13; log 18), and nothing else changes. [10_state R41, R48, 47_bdc_commands R285, R286, R291, R292, 92_eei_decisions D11, D13] -/
def Obligations.DebugRegisterCommands : Prop :=
  ∀ (s : State) (cc : Byte) (w : Word16),
    Commands .readStatus [0xE4#8] s { s with reply := [s.status] } ∧
    (s.status.getLsbD 7 = s.bdcscr.enbdm ∧ s.status.getLsbD 6 = s.bdcscr.bdmact ∧ s.status.getLsbD 5 = s.bdcscr.bkpten ∧ s.status.getLsbD 4 = s.bdcscr.fts ∧
      s.status.getLsbD 3 = false ∧ s.status.getLsbD 2 = s.bdcscr.ws ∧ s.status.getLsbD 1 = s.bdcscr.wsf ∧ s.status.getLsbD 0 = false) ∧
    Commands (.writeControl cc) [0xC4#8, cc] s
      { s with bdcscr := { s.bdcscr with enbdm := if s.bdcscr.bdmact then s.bdcscr.enbdm else cc.getLsbD 7, bkpten := cc.getLsbD 5, fts := cc.getLsbD 4 } } ∧
    Commands .readBkpt [0xE2#8] s { s with reply := [s.bdcbkpt.extractLsb' 8 8, s.bdcbkpt.extractLsb' 0 8] } ∧
    Commands (.writeBkpt w) [0xC2#8, w.extractLsb' 8 8, w.extractLsb' 0 8] s { s with bdcbkpt := w }

/-- For every state with BDMACT 1 and every data: READ_A replies A; WRITE_A writes A and no flag (R313 derives this from R315); READ_CCR_PC replies Z at bit 15, C at bit
14 and PC below, high byte first; WRITE_CCR_PC writes the three from those bits; READ_SPC replies two zero bits and SPC; WRITE_SPC writes SPC from bits 13:0 and
ignores the two above. Nothing else changes. [47_bdc_commands R312, R313, R314, R315, R316, R317] -/
def Obligations.CpuRegisterCommands : Prop :=
  ∀ (s : State) (v : Byte) (w : Word16), s.bdcscr.bdmact = true →
    Commands .readA [0x68#8] s { s with reply := [s.a] } ∧
    Commands (.writeA v) [0x48#8, v] s { s with a := v } ∧
    (∃ hi lo : Byte, Commands .readCcrPc [0x6B#8] s { s with reply := [hi, lo] } ∧ hi.getLsbD 7 = s.z ∧ hi.getLsbD 6 = s.c ∧ (hi ++ lo).extractLsb' 0 14 = s.pc) ∧
    Commands (.writeCcrPc w) [0x4B#8, w.extractLsb' 8 8, w.extractLsb' 0 8] s { s with z := w.getLsbD 15, c := w.getLsbD 14, pc := w.extractLsb' 0 14 } ∧
    (∃ hi lo : Byte, Commands .readSpc [0x6F#8] s { s with reply := [hi, lo] } ∧ (hi ++ lo).toNat = s.spc.toNat) ∧
    Commands (.writeSpc w) [0x4F#8, w.extractLsb' 8 8, w.extractLsb' 0 8] s { s with spc := w.extractLsb' 0 14 }

/-- For every state with BDMACT 0 and every data: GO, TRACE1, WRITE_A, WRITE_CCR_PC and WRITE_SPC change nothing; READ_A, READ_CCR_PC and READ_SPC change nothing but the
reply, of one or two bytes that are free values (decision D17, log 21); READ_BLOCK replies one free byte and WRITE_BLOCK drops its first, and each lasts to its soft-
reset with no access to memory (that it lasts so long is the model's reading, log 21): in a state in which one does, with no reply waiting, a byte time gives the
host a free value (READ_BLOCK) or drops the byte (WRITE_BLOCK), whatever the byte, and changes nothing else; the soft-reset leaves the serial state idle. [47_bdc_commands R281, R276, R310, R311, 92_eei_decisions D17] -/
def Obligations.BackgroundCommandsOutsideBackground : Prop :=
  ∀ (s : State) (v b : Byte) (w : Word16) (tm : Timing),
    (s.bdcscr.bdmact = false →
      (∀ i ∈ [Instr.go, .trace1, .writeA v, .writeCcrPc w, .writeSpc w], exec i s = .next s) ∧
      exec (.writeBlock w v) s = .next { s with serial := .writeBlockRefused } ∧
      (∀ i ∈ ([(.readA, 1), (.readCcrPc, 2), (.readSpc, 2)] : List (Instr × Nat)),
        ∃ bytes : List Byte, bytes.length = i.2 ∧ exec i.1 s = .next { s with reply := bytes, freeCount := s.freeCount + i.2 }) ∧
      ∃ v : Byte, exec (.readBlock w) s = .next { s with reply := [v], freeCount := s.freeCount + 1, serial := .readBlockRefused }) ∧
    (s.reply = [] → s.serial = .writeBlockRefused → hostByte b tm s = .next s) ∧
    (s.reply = [] → s.serial = .readBlockRefused → ∃ v : Byte, hostByte b tm s = .next { s with sent := s.sent ++ [v], freeCount := s.freeCount + 1 }) ∧
    (s.listening = true → s.serial = .writeBlockRefused ∨ s.serial = .readBlockRefused → event .softReset s = .next { s with serial := .idle, reply := [] })

/-- For every state with BDMACT 1: GO gives run mode with BDMACT and WS 0 and no register changed; exec of TRACE1 gives the same with the trace noted, the step that
completes the command running the instruction (log 29); the record of stores and the mark of a WAIT or STOP just executed are cleared (log 13, log 26; that this
holds for stores the CPU made before active background mode is a DESIGN CHOICE of log 13). For every state that meets the invariant, in active background mode, with
BKGD idle (no reply, no command), BKPTEN 0 and the instruction at PC fetched as in any step: the step that receives the TRACE1 code, with no reset declared inside
the instruction, runs exec of that instruction, and where this leaves run, wait or stop mode without a request of the debug logic, the next state is that state with
BDMACT 1, WS 0 and active background mode. [47_bdc_commands R308, R309, 60_exceptions R351, 92_eei_decisions D12] -/
def Obligations.GoAndTrace : Prop :=
  (∀ s : State, s.bdcscr.bdmact = true →
      Commands .go [0x08#8] s { s with mode := .run, bdcscr := { s.bdcscr with bdmact := false, ws := false }, afterSleep := false, stores := [] } ∧
      Commands .trace1 [0x10#8] s { s with mode := .run, bdcscr := { s.bdcscr with bdmact := false, ws := false }, afterSleep := false, stores := [], trace := true }) ∧
    ∀ (s u : State) (i : Instr) (t : State) (rest : List Input) (tm : Timing), s.Inv → s.mode = .background → s.serial = .idle → s.reply = [] → s.bdcscr.bkpten = false →
    s.env = .byte 0x10#8 tm :: rest → (∀ source stored, tm ≠ .cut source stored) → u = { s.leaveBackground with env := rest, tag := false, trace := true } →
    fetchInstr u = .ok i u → exec i u = .next t → t.asleep = true ∨ t.mode = .run → t.trace = true → t.tag = false → t.forcedRequest = false → t.backgroundRequest = false →
    step s = .next { t with mode := .background, bdcscr := { t.bdcscr with bdmact := true, ws := false }, trace := false }

/-- For every state, 16-bit address field and form: outside wait and stop, with no collision declared or with none possible (no WAIT or STOP just executed or at PC), a
legal address gives the byte there, untouched by D[X] and the window (decision D8; log 15), with bits 15:14 of the field ignored, and WSF 0, the status byte first in
the WS form and sampled after the access (a peripheral register, or an address nothing implements, gives a free value and draws it: log 11, a DESIGN CHOICE of the
model, and log 34); an address in ILLEGAL_ADDR resets (decision D8; log 15). In wait or stop, and in run mode where the host's timing oracle declares the access to
coincide with a WAIT or STOP that the CPU has just executed or that stands at PC (decision D22; log 26), WSF is 1 and one byte is returned that is a free value.
Memory and every register stay. What sets and clears WSF is decision D12 (log 19). [47_bdc_commands R287, R288, R294, R295, 20_memory R87, 10_state R46, 92_eei_decisions D8, D12, D22] -/
def Obligations.MemoryReadCommands : Prop :=
  ∀ (s : State) (aaaa : Word16), ∀ i ∈ ([(.readByte aaaa, 0xE0#8, false), (.readByteWs aaaa, 0xE1#8, true)] : List (Instr × Byte × Bool)),
    encode i.1 = [i.2.1, aaaa.extractLsb' 8 8, aaaa.extractLsb' 0 8] ∧
    (s.asleep = false → (s.collision = false ∨ s.mode ≠ .run ∨ s.afterSleep = false ∧ s.stores = [] ∧ s.unstated s.pc = false ∧ s.byteAt s.pc ≠ 0xAF#8 ∧ s.byteAt s.pc ≠ 0xAE#8) →
      s.dev.kindAt (aaaa.extractLsb' 0 14) ≠ .illegal →
      exec i.1 s = .next { s with bdcscr := { s.bdcscr with wsf := false }, freeCount := s.freeCount + s.draws (aaaa.extractLsb' 0 14),
                                  reply := (if i.2.2 then [({ s.bdcscr with wsf := false } : Bdcscr).toByte] else []) ++ [s.peek (aaaa.extractLsb' 0 14)] }) ∧
    (s.asleep = false → (s.collision = false ∨ s.mode ≠ .run ∨ s.afterSleep = false ∧ s.stores = [] ∧ s.unstated s.pc = false ∧ s.byteAt s.pc ≠ 0xAF#8 ∧ s.byteAt s.pc ≠ 0xAE#8) →
      s.dev.kindAt (aaaa.extractLsb' 0 14) = .illegal → exec i.1 s = .next (takeReset .illegalAddress s)) ∧
    (s.asleep = true ∨ s.collision = true ∧ s.mode = .run ∧ (s.afterSleep = true ∨ s.byteAt s.pc = 0xAF#8 ∨ s.byteAt s.pc = 0xAE#8) → ∃ v : Byte,
      exec i.1 s = .next { s with bdcscr := { s.bdcscr with wsf := true }, freeCount := s.freeCount + 1,
                                  reply := (if i.2.2 then [({ s.bdcscr with wsf := true } : Bdcscr).toByte] else []) ++ [v] })

/-- For every state with canonical memory, address field, byte and form: outside wait and stop, with no collision declared or with none possible (no WAIT or STOP just
executed or at PC), a legal physical address (decision D8; log 15) takes the byte where it is RAM, X or PAGESEL (flash keeps its own: decision D14, log 12; a
peripheral register or an address nothing implements keeps its own too: log 11, a DESIGN CHOICE of the model), every other byte and every register stays, WSF is 0;
an address in ILLEGAL_ADDR resets (decision D8; log 15). In wait or stop, and in run mode where the host's timing oracle declares the access to coincide with a WAIT
or STOP that the CPU has just executed or that stands at PC (decision D22; log 26), nothing is written and WSF is 1. The WS form replies the status sampled after the
access. What sets and clears WSF is decision D12 (log 19). (The record of stores, which a stored byte adds to, is the model's own: log 13, a DESIGN CHOICE, and log
38.) [47_bdc_commands R289, R290, R294, R295, 20_memory R87, 10_state R46, 92_eei_decisions D8, D12, D22] -/
def Obligations.MemoryWriteCommands : Prop :=
  ∀ (s : State) (aaaa : Word16) (v : Byte), s.mem.wf = true → ∀ i ∈ ([(.writeByte aaaa v, 0xC0#8, false), (.writeByteWs aaaa v, 0xC1#8, true)] : List (Instr × Byte × Bool)),
    encode i.1 = [i.2.1, aaaa.extractLsb' 8 8, aaaa.extractLsb' 0 8, v] ∧
    (s.asleep = false → (s.collision = false ∨ s.mode ≠ .run ∨ s.afterSleep = false ∧ s.stores = [] ∧ s.unstated s.pc = false ∧ s.byteAt s.pc ≠ 0xAF#8 ∧ s.byteAt s.pc ≠ 0xAE#8) →
      s.dev.kindAt (aaaa.extractLsb' 0 14) ≠ .illegal → ∃ t, exec i.1 s = .next t ∧
      ByteStored s { s with bdcscr := { s.bdcscr with wsf := false }, stores := s.storesAfter (aaaa.extractLsb' 0 14) s.pc,
                            reply := if i.2.2 then [({ s.bdcscr with wsf := false } : Bdcscr).toByte] else s.reply }
        t (aaaa.extractLsb' 0 14) v) ∧
    (s.asleep = false → (s.collision = false ∨ s.mode ≠ .run ∨ s.afterSleep = false ∧ s.stores = [] ∧ s.unstated s.pc = false ∧ s.byteAt s.pc ≠ 0xAF#8 ∧ s.byteAt s.pc ≠ 0xAE#8) →
      s.dev.kindAt (aaaa.extractLsb' 0 14) = .illegal → exec i.1 s = .next (takeReset .illegalAddress s)) ∧
    (s.asleep = true ∨ s.collision = true ∧ s.mode = .run ∧ (s.afterSleep = true ∨ s.byteAt s.pc = 0xAF#8 ∨ s.byteAt s.pc = 0xAE#8) →
      exec i.1 s = .next { s with bdcscr := { s.bdcscr with wsf := true }, reply := if i.2.2 then [({ s.bdcscr with wsf := true } : Bdcscr).toByte] else s.reply })

/-- For every state with BDMACT 1, canonical memory and legal addresses: READ_BLOCK replies the byte at AAAA[13:0] and is open at the next address; while it is open with
its reply fetched, a byte time sends the host the byte at the open address and moves on (a peripheral register, or an address nothing implements, gives a free value
and draws it: log 11, a DESIGN CHOICE of the model, and log 34); WRITE_BLOCK stores its first byte and is open at the next address; while it is open a byte of the
host is stored at the open address; each where the address is RAM, X or PAGESEL (elsewhere the byte stays: decision D14, log 12, and log 11, a DESIGN CHOICE). The
record of stores, which a stored byte adds to, is the model's own (log 13, log 38). Addresses wrap (decision D20). An address in ILLEGAL_ADDR resets, the first and
every later one (decision D8; log 15). The soft-reset closes either and changes nothing else. WSF is 0 after each (log 19). [47_bdc_commands R310, R311, R276, R295, 20_memory R87, R64, 92_eei_decisions D8, D14, D20] -/
def Obligations.BlockCommands : Prop :=
  ∀ (s : State) (aaaa : Word16) (p : Addr) (b : Byte) (tm : Timing), s.mem.wf = true →
    (s.bdcscr.bdmact = true → s.dev.kindAt (aaaa.extractLsb' 0 14) ≠ .illegal →
      Commands (.readBlock aaaa) [0x80#8, aaaa.extractLsb' 8 8, aaaa.extractLsb' 0 8] s
        { s with reply := [s.peek (aaaa.extractLsb' 0 14)], serial := .readBlock (aaaa.extractLsb' 0 14 + 1), bdcscr := { s.bdcscr with wsf := false },
                 freeCount := s.freeCount + s.draws (aaaa.extractLsb' 0 14) } ∧
      encode (.writeBlock aaaa b) = [0x88#8, aaaa.extractLsb' 8 8, aaaa.extractLsb' 0 8, b] ∧
      ∃ t, exec (.writeBlock aaaa b) s = .next t ∧
        ByteStored s { s with serial := .writeBlock (aaaa.extractLsb' 0 14 + 1), bdcscr := { s.bdcscr with wsf := false },
                              stores := s.storesAfter (aaaa.extractLsb' 0 14) s.pc } t (aaaa.extractLsb' 0 14) b) ∧
    (s.reply = [] → s.serial = .readBlock p → s.dev.kindAt p ≠ .illegal →
      hostByte b tm s = .next { s with sent := s.sent ++ [s.peek p], serial := .readBlock (p + 1), bdcscr := { s.bdcscr with wsf := false },
                                       freeCount := s.freeCount + s.draws p }) ∧
    (s.reply = [] → s.serial = .writeBlock p → s.dev.kindAt p ≠ .illegal → ∃ t, hostByte b tm s = .next t ∧
      ByteStored s { s with serial := .writeBlock (p + 1), bdcscr := { s.bdcscr with wsf := false }, stores := s.storesAfter p s.pc } t p b) ∧
    (s.bdcscr.bdmact = true → s.dev.kindAt (aaaa.extractLsb' 0 14) = .illegal →
      exec (.readBlock aaaa) s = .next (takeReset .illegalAddress s) ∧ exec (.writeBlock aaaa b) s = .next (takeReset .illegalAddress s)) ∧
    (s.reply = [] → s.serial = .readBlock p ∨ s.serial = .writeBlock p → s.dev.kindAt p = .illegal → hostByte b tm s = .next (takeReset .illegalAddress s)) ∧
    event .softReset s = .next (if s.listening then { s with serial := .idle, reply := [] } else s)

/-- For every state: with ENBDM 0 or BDMACT 1 nothing changes; else in wait or stop the machine enters active background mode with PC and WS as they were; else the
request is noted, and the boundary that follows enters active background mode with no register changed; a request that finds ENBDM 0 at that boundary is dropped
there (log 17, a DESIGN CHOICE of the model). [47_bdc_commands R293, 60_exceptions R350, 10_state R46] -/
def Obligations.BackgroundCommand : Prop :=
  ∀ s : State, encode .background = [0x90#8] ∧
    (s.bdcscr.enbdm = false ∨ s.bdcscr.bdmact = true → exec .background s = .next s) ∧
    (s.bdcscr.enbdm = true → s.bdcscr.bdmact = false → s.asleep = true →
      exec .background s = .next { s with mode := .background, bdcscr := { s.bdcscr with bdmact := true }, tag := false, forcedRequest := false, backgroundRequest := false, trace := false }) ∧
    (s.bdcscr.enbdm = true → s.bdcscr.bdmact = false → s.asleep = false → exec .background s = .next { s with backgroundRequest := true }) ∧
    (s.mode = .run → s.tag = false → s.forcedRequest = false → s.trace = false → s.bdcscr.enbdm = true →
      { s with backgroundRequest := true }.settle = { s with mode := .background, bdcscr := { s.bdcscr with bdmact := true }, backgroundRequest := false }) ∧
    (s.mode = .run → s.tag = false → s.forcedRequest = false → s.trace = false → s.bdcscr.enbdm = false →
      { s with backgroundRequest := true }.settle = { s with backgroundRequest := false })

/-- For every state: BDC_RESET takes the reset with cause BDC_RESET; SYNC has no bytes and leaves the serial state idle with no reply waiting, every other field as it
was. [47_bdc_commands R284, R283, R276] -/
def Obligations.ResetCommandAndSync : Prop :=
  ∀ s : State, Commands .bdcReset [0x18#8] s (takeReset .bdcReset s) ∧ Commands .sync [] s { s with serial := .idle, reply := [] }

/-- For every state that listens, with no reply waiting and no block command open or lasting to its soft-reset, and every timing: a byte that completes a command other
than TRACE1 makes the step the command followed by the boundary, with the timing oracle of R294 raised for the length of the command where the host declares a
collision (decision D22; log 26) and not otherwise (the timing that declares a reset inside a traced instruction means nothing here); a byte that completes none
changes the serial state alone; a code outside Table 3-2 leaves it idle (R280: decision D16; log 21); with a reply waiting a byte time moves its first byte to the
host and changes nothing else; a state that does not listen ignores the byte. A state listens in run and active background mode, in wait and stop with ENBDM 1, and
there with ENBDM 0 as the device lets it (log 28), and not in reset (log 31). Byte times as inputs are the model's form of decision D19 (log 23). [47_bdc_commands R276, R279, R280, R281, R282, R294, 92_eei_decisions D16, D19, D22] -/
def Obligations.CommandBytesReachExec : Prop :=
  ∀ (s : State) (b : Byte) (tm : Timing) (rest : List Input),
    (s.mode ≠ .reset → s.asleep = false ∨ s.bdcscr.enbdm = true → s.listening = true) ∧ (s.mode = .reset → s.listening = false) ∧
    (s.bdcscr.enbdm = false → (s.mode = .wait → s.listening = s.dev.bdcClockInWait) ∧ (s.mode = .stop → s.listening = s.dev.bdcClockInStop)) ∧
    (s.env = .byte b tm :: rest →
      (s.listening = true → s.reply = [] → s.serial.noBlock = true →
        (∀ i, (s.serial.receive b).2 = some i → i ≠ .trace1 → s.trace = false → s.collision = false →
          step s = onNext (exec i { s with env := rest, serial := .idle, collision := decide (tm = .collide) }) fun t => .next { t with collision := false }.settle) ∧
        ((s.serial.receive b).2 = none → step s = .next { s with env := rest, serial := (s.serial.receive b).1 }) ∧
        (s.serial = .idle → commandItems b = none → step s = .next { s with env := rest })) ∧
      (∀ r rs, s.listening = true → s.reply = r :: rs → step s = .next { s with env := rest, reply := rs, sent := s.sent ++ [r] }) ∧
      (s.listening = false → step s = .next { s with env := rest }))

/-- For every state with the invariant: if a step gives a next state, that state has it too. The invariant: memory in canonical form; BDMACT 1 exactly in active
background mode, and then ENBDM 1; WS 1 in wait and stop and 0 in run mode; a block command open that reads or writes memory in active background mode alone; no
request of the debug logic, trace, command waiting for a stolen cycle or declared collision left over. [10_state R39, R43, R46, 60_exceptions R340, R350, 47_bdc_commands R310, 20_memory R75] -/
def Obligations.StepKeepsInvariant : Prop :=
  ∀ s t : State, s.Inv → step s = .next t → t.Inv

/-- The invariant that every step keeps holds of State.reset, and of the state after any reset of a state whose memory is in canonical form. [10_state R52, R47] -/
def Obligations.ResetMeetsInvariant : Prop :=
  State.reset.Inv ∧ ∀ (cause : ResetCause) (s : State), s.mem.wf = true → (takeReset cause s).Inv

/-- For every state with the invariant and every input: after a step that gives a next state each byte of a flash address reads as before, and the device's parameters
are the same (on a map that calls the address flash, decision D14, log 12). [20_memory R64, 70_reset_and_hazards R374, 92_eei_decisions D14] -/
def Obligations.FlashNeverChanges : Prop :=
  ∀ s t : State, s.Inv → step s = .next t → t.dev = s.dev ∧ ∀ p : Addr, s.dev.kindAt p = .flash → t.byteAt p = s.byteAt p

/-- For every state, with any input: the step gives a next state, never a fault and never a refusal; the mark that the run has gone wrong is never taken back; and where
no input waits a step sets it only by an illegal-opcode or illegal-address reset, which is then the cause on record. What each instruction does is said by the other
statements. R322 asks a model to treat these resets as faults of the run, recorded as gone wrong (decision D23): this model goes on from the reset state and keeps
the mark (log 36). [60_exceptions R328, R322, 92_eei_decisions D23] -/
def Obligations.EveryStepGivesANextState : Prop :=
  ∀ s : State, ∃ t, step s = .next t ∧ (s.wentWrong = true → t.wentWrong = true) ∧
    (s.env = [] → s.wentWrong = false → t.wentWrong = true → t.resetCause = .illegalOpcode ∨ t.resetCause = .illegalAddress)

/-- For every instruction of the CPU and every state with no command waiting for a stolen cycle: in the next state BDCBKPT, ENBDM, BKPTEN, FTS, WSF and the serial state
are as they were, or the next state is one that a reset leaves. [60_exceptions R341, R358, 10_state R40] -/
def Obligations.ProgramsDoNotReachDebugRegisters : Prop :=
  ∀ (i : Instr) (s t : State), isCommand i = false → s.stolen = [] → exec i s = .next t →
    (t.bdcbkpt = s.bdcbkpt ∧ t.bdcscr.enbdm = s.bdcscr.enbdm ∧ t.bdcscr.bkpten = s.bdcscr.bkpten ∧ t.bdcscr.fts = s.bdcscr.fts ∧ t.bdcscr.wsf = s.bdcscr.wsf ∧
      t.serial = s.serial ∧ t.reply = s.reply) ∨
    ∃ cause u, t = takeReset cause u

/-- For every instruction of the CPU and every state with no command waiting for a stolen cycle whose next state no reset left: Z is as it was for BSET, BCLR, BRSET,
BRCLR, CBEQ, CBEQA, DBNZ, DBNZA, every branch, JMP, JSR, BSR, RTS, SHA, SLA, SEC, CLC, NOP, BGND, WAIT and STOP; C is as it was for INC, INCA, DEC, DECA, CLR, CLRA,
AND, ORA, EOR, LDA, STA, MOV, BSET, BCLR, CBEQ, CBEQA, DBNZ, DBNZA, the branches but BRSET and BRCLR, the subroutine instructions, NOP, BGND, WAIT and STOP; SPC is
as it was for every instruction but JSR, BSR, SHA and SLA; A is as it was for STA, MOV, CMP, BSET, BCLR, BRSET, BRCLR, CBEQ, CBEQA, INC, DEC and CLR of memory, DBNZ
of memory, the branches, JMP, JSR, BSR, RTS, SEC, CLC, NOP, BGND, WAIT and STOP; the pseudo instructions go by the instruction they expand to. [10_state R21, R27, R30, R31, 41_math R170, 44_branch_loop R220] -/
def Obligations.InstructionsThatKeepRegisters : Prop :=
  ∀ (i : Instr) (s t : State), isCommand i = false → s.stolen = [] → exec i s = .next t → (∃ cause u, t = takeReset cause u) ∨
    ((match native i with
      | .bset .. | .bclr .. | .brset .. | .brclr .. | .cbeqDir .. | .cbeqa .. | .dbnzDir .. | .dbnza _ | .bra _ | .bcc _ | .bcs _ | .bne _ | .beq _
      | .jmp _ | .jsr _ | .bsr _ | .rts | .sha | .sla | .sec | .clc | .nop | .bgnd | .wait | .stop => t.z = s.z
      | _ => True) ∧
    (match native i with
      | .incDir _ | .incTny _ | .inca | .decDir _ | .decTny _ | .deca | .clrDir _ | .clrSrt _ | .clra | .andImm _ | .andDir _ | .oraImm _ | .oraDir _
      | .eorImm _ | .eorDir _ | .ldaImm _ | .ldaDir _ | .ldaSrt _ | .staDir _ | .staSrt _ | .movImm .. | .movDir .. | .bset .. | .bclr .. | .cbeqDir .. | .cbeqa ..
      | .dbnzDir .. | .dbnza _ | .bra _ | .bcc _ | .bcs _ | .bne _ | .beq _ | .jmp _ | .jsr _ | .bsr _ | .rts | .sha | .sla | .nop | .bgnd | .wait | .stop => t.c = s.c
      | _ => True) ∧
    (match native i with
      | .jsr _ | .bsr _ | .sha | .sla => True
      | _ => t.spc = s.spc) ∧
    (match native i with
      | .staDir _ | .staSrt _ | .movImm .. | .movDir .. | .cmpImm _ | .cmpDir _ | .bset .. | .bclr .. | .brset .. | .brclr .. | .cbeqDir .. | .cbeqa ..
      | .incDir _ | .incTny _ | .decDir _ | .decTny _ | .clrDir _ | .clrSrt _ | .dbnzDir .. | .bra _ | .bcc _ | .bcs _ | .bne _ | .beq _ | .jmp _ | .jsr _ | .bsr _
      | .rts | .sec | .clc | .nop | .bgnd | .wait | .stop => t.a = s.a
      | _ => True))

/-- For every state in run mode with no input waiting and no command waiting for a stolen cycle: if the step's next state is in wait or stop mode, the instruction it ran
is WAIT or STOP; if it is in active background mode, the instruction is BGND, or a request of the debug logic or a trace was pending before or after it, or the
breakpoint is enabled, or a reset with BKGD low left that state. [60_exceptions R340, R351] -/
def Obligations.RunModeStopsOnlyByThese : Prop :=
  ∀ s t : State, s.env = [] → s.mode = .run → s.stolen = [] → step s = .next t →
    (t.asleep = true → ∃ i u, fetchInstr s.tagOpcode = .ok i u ∧ (i = .wait ∨ i = .stop)) ∧
    (t.mode = .background → (∃ u, fetchInstr s.tagOpcode = .ok .bgnd u) ∨ s.forcedRequest = true ∨ s.backgroundRequest = true ∨ s.trace = true ∨ s.bdcscr.bkpten = true ∨
      ∃ cause u, t = takeReset cause u)

/-- For every three bytes whose first is no illegal opcode: the decoded instruction takes between 1 and 7 cycles; its access detail has at most one read and at most one
write, and no read after a write. It does not depend on which name the decoder gives. (BGND counts 6 as 90_conflicts C8 says; its column prints 5.) [70_reset_and_hazards R391, R392, R390, 20_memory R80] -/
def Obligations.CycleCounts : Prop :=
  ∀ op b1 b2 : Byte, op ∉ illegalOpcodes →
    1 ≤ cycles (decodeOp op b1 b2) ∧ cycles (decodeOp op b1 b2) ≤ 7 ∧
    (accessDetail (decodeOp op b1 b2)).filter (fun c => c = .r ∨ c = .w) ∈ [[], [.r], [.w], [.r, .w]] ∧
    accessDetail (decodeOp op b1 b2) = accessDetail (decodeNative op b1 b2)

/-- For every state in run mode: a turn with commands runs the CPU with them waiting for their stolen cycles (decisions D6 and D19; log 25), and none is left after it; a
turn in which a reset becomes active, of a source outside the core or a BDC_RESET, ends with the bytes of memory the instruction left and the reset taken, whatever
the boundary would have done: a source holds the core in the reset condition with PC at $3FFD, and BDC_RESET, which nothing holds, is the whole reset (log 35). Where
the instruction left a forced breakpoint pending the reset comes first (decision D10; log 17, log 27), also where that breakpoint would have reset the machine, so
that the mark of a run gone wrong is kept and is set by the instruction alone (with the breakpoint disabled as in a turn without the reset); that the cause on record
is that of the source or of the BDC_RESET where the instruction has raised a reset itself is log 33 (a DESIGN CHOICE). A reset before the store is the input that
comes before the turn. In the other modes a turn with no reset is a turn of the CPU, one with a reset source is that reset source, and one with a BDC_RESET that the
host can send is that command. For every state in active background mode in which BDMACT is 1 and a TRACE1 code arrives: a reset source declared inside the traced
instruction before its store leaves memory as it was, one after its store leaves it as the traced instruction does, each in the reset condition, for the COP too (log
29). [47_bdc_commands R279, R284, R309, 60_exceptions R321, R335, 92_eei_decisions D6, D10, D19] -/
def Obligations.ResetAndCommandsInsideAnInstruction : Prop :=
  ∀ (s t : State) (rest : List Input) (commands : List Instr) (source : ResetSource),
    (s.mode = .run → s.serial = .idle → s.reply = [] → cpuStep { s with env := rest, stolen := commands } = .next t →
      (s.env = .turn commands none :: rest → step s = .next { t with stolen := [] }) ∧
      (∀ reset : TurnReset, s.env = .turn commands (some reset) :: rest →
        ∃ u, step s = .next u ∧ u.mem = t.mem ∧
          (match reset with
            | .source source => u.mode = .reset ∧ u.pc = 0x3FFD#14 ∧ u.resetCause = source.cause ∧ u.forcedRequest = false ∧ u.bdcscr.bdmact = false ∧
                u.leaveReset = { takeReset source.cause t with wentWrong := u.wentWrong }
            | .bdcReset => u = { takeReset .bdcReset t with wentWrong := u.wentWrong }) ∧
          (s.wentWrong = true → u.wentWrong = true) ∧ (u.wentWrong = true → t.wentWrong = true) ∧
          (s.bdcscr.bkpten = false → s.forcedRequest = false → commands = [] → u.wentWrong = t.wentWrong))) ∧
    (s.mode ≠ .run →
      (s.env = .turn commands none :: rest → step s = cpuStep { s with env := rest }) ∧
      (s.env = .turn commands (some (.source source)) :: rest → step s = step { s with env := .resetOn source :: rest }) ∧
      (s.listening = true → s.serial = .idle → s.reply = [] → s.env = .turn commands (some .bdcReset) :: rest → step s = .next (takeReset .bdcReset { s with env := rest }))) ∧
    (s.mode = .background → s.bdcscr.bdmact = true → s.serial = .idle → s.reply = [] →
      (s.env = .byte 0x10#8 (.cut source false) :: rest →
        ∃ u, step s = .next u ∧ u.mode = .reset ∧ u.pc = 0x3FFD#14 ∧ u.mem = s.mem ∧ u.resetCause = source.cause ∧ u.env = rest) ∧
      (s.env = .byte 0x10#8 (.cut source true) :: rest → step { s with env := .byte 0x10#8 .boundary :: rest } = .next t →
        ∃ u, step s = .next u ∧ u.mode = .reset ∧ u.pc = 0x3FFD#14 ∧ u.mem = t.mem ∧ u.resetCause = source.cause ∧ u.leaveReset = takeReset source.cause t))
end

