-- ==== Sys2Proof/Laws/Memory.lean ====
section
/-! SUPPORT. The laws of the byte storage: read after write, and the canonical form. -/

namespace Sys2Proof.Machine

@[simp] theorem Memory.read_nil (p : Nat) : Memory.read [] p = Memory.unlisted := rfl

theorem Memory.read_insertCell (m : Memory) (p q : Nat) (v : Byte) :
    Memory.read (m.insertCell p v) q = if p = q then v else m.read q := by
  induction m with
  | nil => simp [insertCell, read]
  | cons c m ih =>
    simp only [insertCell]
    split
    · simp only [read, ih]
      split <;> split <;> first | rfl | omega
    · split <;> (simp only [read]; repeat (first | rfl | omega | split))

theorem Memory.read_eraseCell_other (m : Memory) {p q : Nat} (h : p ≠ q) : Memory.read (m.eraseCell p) q = m.read q := by
  induction m with
  | nil => rfl
  | cons c m ih =>
    simp only [eraseCell]
    split
    · simp only [read]; split <;> first | rfl | omega
    · simp only [read, ih]

theorem Memory.read_unlisted {m : Memory} {p : Nat} (h : ∀ c ∈ m, c.1 ≠ p) : m.read p = Memory.unlisted := by
  induction m with
  | nil => rfl
  | cons c m ih =>
    simp only [List.mem_cons, forall_eq_or_imp] at h
    simp only [read, if_neg h.1, ih h.2]

/-- Rising addresses. -/
def Memory.sorted (m : Memory) : Prop := m.Pairwise fun c d => c.1 < d.1

theorem Memory.wf_iff (m : Memory) : m.wf = true ↔ m.sorted ∧ ∀ c ∈ m, c.1 < addressSpace ∧ c.2 ≠ Memory.unlisted := by
  simp [wf, sorted]

theorem Memory.wf_sorted {m : Memory} (h : m.wf = true) : m.sorted := ((wf_iff m).1 h).1

theorem Memory.read_eraseCell_same {m : Memory} (h : m.sorted) (p : Nat) : Memory.read (m.eraseCell p) p = Memory.unlisted := by
  induction m with
  | nil => rfl
  | cons c m ih =>
    simp only [sorted, List.pairwise_cons] at h
    simp only [eraseCell]
    split
    · exact read_unlisted fun d hd => by have := h.1 d hd; omega
    · simp only [read, if_neg ‹_›]; exact ih h.2

/-- Everything a write does: the byte at its address becomes the value, every other byte stays (20_memory R75, R83). -/
theorem Memory.read_write {m : Memory} (h : m.sorted) (p q : Nat) (v : Byte) :
    Memory.read (m.write p v) q = if p = q then v else m.read q := by
  unfold write
  split
  · subst v
    split
    · subst q; exact read_eraseCell_same h p
    · exact read_eraseCell_other m ‹_›
  · exact read_insertCell m p q v

theorem Memory.read_write_other (m : Memory) {p q : Nat} (v : Byte) (h : p ≠ q) : Memory.read (m.write p v) q = m.read q := by
  unfold write
  split
  · exact read_eraseCell_other m h
  · rw [read_insertCell, if_neg h]

theorem Memory.mem_insertCell {m : Memory} {p : Nat} {v : Byte} {c : Host.Cell} (h : c ∈ m.insertCell p v) : c = (p, v) ∨ c ∈ m := by
  induction m with
  | nil => simpa [insertCell] using h
  | cons d m ih =>
    simp only [insertCell] at h
    split at h
    · rcases List.mem_cons.1 h with h | h
      · exact .inr (by simp [h])
      · exact (ih h).imp id (List.mem_cons_of_mem _)
    · split at h <;> (simp only [List.mem_cons] at h ⊢; tauto)

theorem Memory.mem_eraseCell {m : Memory} {p : Nat} {c : Host.Cell} (h : c ∈ m.eraseCell p) : c ∈ m := by
  induction m with
  | nil => exact h
  | cons d m ih =>
    simp only [eraseCell] at h
    split at h
    · exact List.mem_cons_of_mem _ h
    · rcases List.mem_cons.1 h with h | h
      · simp [h]
      · exact List.mem_cons_of_mem _ (ih h)

theorem Memory.sorted_insertCell {m : Memory} (h : m.sorted) (p : Nat) (v : Byte) : (m.insertCell p v).sorted := by
  induction m with
  | nil => simp [insertCell, sorted]
  | cons c m ih =>
    simp only [sorted, List.pairwise_cons] at h
    simp only [insertCell]
    split
    · refine List.pairwise_cons.2 ⟨fun d hd => ?_, ih h.2⟩
      rcases mem_insertCell hd with rfl | hd
      · assumption
      · exact h.1 d hd
    · split
      · refine List.pairwise_cons.2 ⟨fun d hd => ?_, h.2⟩
        have := h.1 d hd
        simp_all
      · refine List.pairwise_cons.2 ⟨fun d hd => ?_, List.pairwise_cons.2 h⟩
        rcases List.mem_cons.1 hd with rfl | hd
        · show p < d.1; omega
        · have := h.1 d hd; show p < d.1; omega

theorem Memory.sorted_eraseCell {m : Memory} (h : m.sorted) (p : Nat) : (m.eraseCell p).sorted := by
  induction m with
  | nil => exact h
  | cons c m ih =>
    simp only [sorted, List.pairwise_cons] at h
    simp only [eraseCell]
    split
    · exact h.2
    · exact List.pairwise_cons.2 ⟨fun d hd => h.1 d (mem_eraseCell hd), ih h.2⟩

/-- Every write keeps the canonical form. -/
theorem Memory.wf_write {m : Memory} (h : m.wf = true) {p : Nat} (hp : p < addressSpace) (v : Byte) : (m.write p v).wf = true := by
  obtain ⟨hs, hb⟩ := (wf_iff m).1 h
  refine (wf_iff _).2 ?_
  unfold write
  split
  · exact ⟨sorted_eraseCell hs p, fun c hc => hb c (mem_eraseCell hc)⟩
  · refine ⟨sorted_insertCell hs p v, fun c hc => ?_⟩
    rcases mem_insertCell hc with rfl | hc
    · exact ⟨hp, ‹_›⟩
    · exact hb c hc

/-- Leaving out entries keeps the canonical form. -/
theorem Memory.wf_filter {m : Memory} (h : m.wf = true) (f : Host.Cell → Bool) : Memory.wf (m.filter f) = true := by
  obtain ⟨hs, hb⟩ := (wf_iff m).1 h
  exact (wf_iff _).2 ⟨hs.sublist List.filter_sublist, fun c hc => hb c (List.mem_filter.1 hc).1⟩

theorem Memory.read_of_mem {m : Memory} (h : m.sorted) {c : Host.Cell} (hc : c ∈ m) : m.read c.1 = c.2 := by
  induction m with
  | nil => simp at hc
  | cons d m ih =>
    simp only [sorted, List.pairwise_cons] at h
    rcases List.mem_cons.1 hc with rfl | hc
    · simp [read]
    · have := h.1 c hc
      simp only [read, if_neg (Nat.ne_of_lt this), ih h.2 hc]

/-- Two canonical memories that read alike everywhere are the same data. -/
theorem Memory.ext_of_read {m n : Memory} (hm : m.wf = true) (hn : n.wf = true) (h : ∀ p, m.read p = n.read p) : m = n := by
  obtain ⟨hms, hmb⟩ := (wf_iff m).1 hm
  obtain ⟨hns, hnb⟩ := (wf_iff n).1 hn
  have key : ∀ {a b : Memory}, a.sorted → (∀ c ∈ a, c.1 < addressSpace ∧ c.2 ≠ Memory.unlisted) → b.sorted → (∀ p, a.read p = b.read p) →
      ∀ c ∈ a, c ∈ b := by
    intro a b ha hab hb hr c hc
    by_contra hcb
    have h1 := read_of_mem ha hc
    by_cases hex : ∃ d ∈ b, d.1 = c.1
    · obtain ⟨d, hd, hdc⟩ := hex
      have h2 := read_of_mem hb hd
      rw [hdc, ← hr, h1] at h2
      exact hcb (by have : d = c := Prod.ext hdc h2.symm; exact this ▸ hd)
    · push Not at hex
      exact (hab c hc).2 (by rw [← h1, hr, read_unlisted hex])
  have hnodup : ∀ {a : Memory}, a.sorted → a.Nodup := fun ha => ha.imp fun h e => by subst e; exact Nat.lt_irrefl _ h
  refine List.Perm.eq_of_pairwise (le := fun c d : Host.Cell => c.1 < d.1) (fun a b _ _ h1 h2 => absurd h1 (Nat.lt_asymm h2)) hms hns ?_
  exact (List.perm_ext_iff_of_nodup (hnodup hms) (hnodup hns)).2 fun c =>
    ⟨key hms hmb hns h c, key hns hnb hms (fun p => (h p).symm) c⟩

end Sys2Proof.Machine
end

