-- ==== Sys2Proof/Laws/State.lean ====
section
/-! SUPPORT. What each update of the state leaves in each field: one lemma for a field and an update. -/

namespace Sys2Proof.Machine

@[simp] theorem State.advance_a (s : State) (len : Addr) : (s.advance len).a = s.a := rfl
@[simp] theorem State.advance_pc (s : State) (len : Addr) : (s.advance len).pc = s.pc + len := rfl
@[simp] theorem State.advance_spc (s : State) (len : Addr) : (s.advance len).spc = s.spc := rfl
@[simp] theorem State.advance_z (s : State) (len : Addr) : (s.advance len).z = s.z := rfl
@[simp] theorem State.advance_c (s : State) (len : Addr) : (s.advance len).c = s.c := rfl
@[simp] theorem State.advance_x (s : State) (len : Addr) : (s.advance len).x = s.x := rfl
@[simp] theorem State.advance_pagesel (s : State) (len : Addr) : (s.advance len).pagesel = s.pagesel := rfl
@[simp] theorem State.advance_mem (s : State) (len : Addr) : (s.advance len).mem = s.mem := rfl
@[simp] theorem State.advance_mode (s : State) (len : Addr) : (s.advance len).mode = s.mode := rfl
@[simp] theorem State.advance_bdcscr (s : State) (len : Addr) : (s.advance len).bdcscr = s.bdcscr := rfl
@[simp] theorem State.advance_bdcbkpt (s : State) (len : Addr) : (s.advance len).bdcbkpt = s.bdcbkpt := rfl
@[simp] theorem State.advance_wakeRequest (s : State) (len : Addr) : (s.advance len).wakeRequest = s.wakeRequest := rfl
@[simp] theorem State.advance_tag (s : State) (len : Addr) : (s.advance len).tag = s.tag := rfl
@[simp] theorem State.advance_forcedRequest (s : State) (len : Addr) : (s.advance len).forcedRequest = s.forcedRequest := rfl
@[simp] theorem State.advance_backgroundRequest (s : State) (len : Addr) : (s.advance len).backgroundRequest = s.backgroundRequest := rfl
@[simp] theorem State.advance_trace (s : State) (len : Addr) : (s.advance len).trace = s.trace := rfl
@[simp] theorem State.advance_serial (s : State) (len : Addr) : (s.advance len).serial = s.serial := rfl
@[simp] theorem State.advance_reply (s : State) (len : Addr) : (s.advance len).reply = s.reply := rfl
@[simp] theorem State.advance_sent (s : State) (len : Addr) : (s.advance len).sent = s.sent := rfl
@[simp] theorem State.advance_stolen (s : State) (len : Addr) : (s.advance len).stolen = s.stolen := rfl
@[simp] theorem State.advance_collision (s : State) (len : Addr) : (s.advance len).collision = s.collision := rfl
@[simp] theorem State.advance_afterSleep (s : State) (len : Addr) : (s.advance len).afterSleep = s.afterSleep := rfl
@[simp] theorem State.advance_resetCause (s : State) (len : Addr) : (s.advance len).resetCause = s.resetCause := rfl
@[simp] theorem State.advance_wentWrong (s : State) (len : Addr) : (s.advance len).wentWrong = s.wentWrong := rfl
@[simp] theorem State.advance_bkgdLowAtResetEnd (s : State) (len : Addr) : (s.advance len).bkgdLowAtResetEnd = s.bkgdLowAtResetEnd := rfl
@[simp] theorem State.advance_stores (s : State) (len : Addr) : (s.advance len).stores = s.stores := rfl
@[simp] theorem State.advance_freeCount (s : State) (len : Addr) : (s.advance len).freeCount = s.freeCount := rfl
@[simp] theorem State.advance_dev (s : State) (len : Addr) : (s.advance len).dev = s.dev := rfl
@[simp] theorem State.advance_env (s : State) (len : Addr) : (s.advance len).env = s.env := rfl

@[simp] theorem State.jumpTo_a (s : State) (target : Addr) : (s.jumpTo target).a = s.a := rfl
@[simp] theorem State.jumpTo_pc (s : State) (target : Addr) : (s.jumpTo target).pc = target := rfl
@[simp] theorem State.jumpTo_spc (s : State) (target : Addr) : (s.jumpTo target).spc = s.spc := rfl
@[simp] theorem State.jumpTo_z (s : State) (target : Addr) : (s.jumpTo target).z = s.z := rfl
@[simp] theorem State.jumpTo_c (s : State) (target : Addr) : (s.jumpTo target).c = s.c := rfl
@[simp] theorem State.jumpTo_x (s : State) (target : Addr) : (s.jumpTo target).x = s.x := rfl
@[simp] theorem State.jumpTo_pagesel (s : State) (target : Addr) : (s.jumpTo target).pagesel = s.pagesel := rfl
@[simp] theorem State.jumpTo_mem (s : State) (target : Addr) : (s.jumpTo target).mem = s.mem := rfl
@[simp] theorem State.jumpTo_mode (s : State) (target : Addr) : (s.jumpTo target).mode = s.mode := rfl
@[simp] theorem State.jumpTo_bdcscr (s : State) (target : Addr) : (s.jumpTo target).bdcscr = s.bdcscr := rfl
@[simp] theorem State.jumpTo_bdcbkpt (s : State) (target : Addr) : (s.jumpTo target).bdcbkpt = s.bdcbkpt := rfl
@[simp] theorem State.jumpTo_wakeRequest (s : State) (target : Addr) : (s.jumpTo target).wakeRequest = s.wakeRequest := rfl
@[simp] theorem State.jumpTo_tag (s : State) (target : Addr) : (s.jumpTo target).tag = s.tag := rfl
@[simp] theorem State.jumpTo_forcedRequest (s : State) (target : Addr) : (s.jumpTo target).forcedRequest = s.forcedRequest := rfl
@[simp] theorem State.jumpTo_backgroundRequest (s : State) (target : Addr) : (s.jumpTo target).backgroundRequest = s.backgroundRequest := rfl
@[simp] theorem State.jumpTo_trace (s : State) (target : Addr) : (s.jumpTo target).trace = s.trace := rfl
@[simp] theorem State.jumpTo_serial (s : State) (target : Addr) : (s.jumpTo target).serial = s.serial := rfl
@[simp] theorem State.jumpTo_reply (s : State) (target : Addr) : (s.jumpTo target).reply = s.reply := rfl
@[simp] theorem State.jumpTo_sent (s : State) (target : Addr) : (s.jumpTo target).sent = s.sent := rfl
@[simp] theorem State.jumpTo_stolen (s : State) (target : Addr) : (s.jumpTo target).stolen = s.stolen := rfl
@[simp] theorem State.jumpTo_collision (s : State) (target : Addr) : (s.jumpTo target).collision = s.collision := rfl
@[simp] theorem State.jumpTo_afterSleep (s : State) (target : Addr) : (s.jumpTo target).afterSleep = s.afterSleep := rfl
@[simp] theorem State.jumpTo_resetCause (s : State) (target : Addr) : (s.jumpTo target).resetCause = s.resetCause := rfl
@[simp] theorem State.jumpTo_wentWrong (s : State) (target : Addr) : (s.jumpTo target).wentWrong = s.wentWrong := rfl
@[simp] theorem State.jumpTo_bkgdLowAtResetEnd (s : State) (target : Addr) : (s.jumpTo target).bkgdLowAtResetEnd = s.bkgdLowAtResetEnd := rfl
@[simp] theorem State.jumpTo_stores (s : State) (target : Addr) : (s.jumpTo target).stores = [] := rfl
@[simp] theorem State.jumpTo_freeCount (s : State) (target : Addr) : (s.jumpTo target).freeCount = s.freeCount := rfl
@[simp] theorem State.jumpTo_dev (s : State) (target : Addr) : (s.jumpTo target).dev = s.dev := rfl
@[simp] theorem State.jumpTo_env (s : State) (target : Addr) : (s.jumpTo target).env = s.env := rfl

@[simp] theorem State.loadA_a (s : State) (v : Byte) : (s.loadA v).a = v := rfl
@[simp] theorem State.loadA_pc (s : State) (v : Byte) : (s.loadA v).pc = s.pc := rfl
@[simp] theorem State.loadA_spc (s : State) (v : Byte) : (s.loadA v).spc = s.spc := rfl
@[simp] theorem State.loadA_z (s : State) (v : Byte) : (s.loadA v).z = zeroFlag v := rfl
@[simp] theorem State.loadA_c (s : State) (v : Byte) : (s.loadA v).c = s.c := rfl
@[simp] theorem State.loadA_x (s : State) (v : Byte) : (s.loadA v).x = s.x := rfl
@[simp] theorem State.loadA_pagesel (s : State) (v : Byte) : (s.loadA v).pagesel = s.pagesel := rfl
@[simp] theorem State.loadA_mem (s : State) (v : Byte) : (s.loadA v).mem = s.mem := rfl
@[simp] theorem State.loadA_mode (s : State) (v : Byte) : (s.loadA v).mode = s.mode := rfl
@[simp] theorem State.loadA_bdcscr (s : State) (v : Byte) : (s.loadA v).bdcscr = s.bdcscr := rfl
@[simp] theorem State.loadA_bdcbkpt (s : State) (v : Byte) : (s.loadA v).bdcbkpt = s.bdcbkpt := rfl
@[simp] theorem State.loadA_wakeRequest (s : State) (v : Byte) : (s.loadA v).wakeRequest = s.wakeRequest := rfl
@[simp] theorem State.loadA_tag (s : State) (v : Byte) : (s.loadA v).tag = s.tag := rfl
@[simp] theorem State.loadA_forcedRequest (s : State) (v : Byte) : (s.loadA v).forcedRequest = s.forcedRequest := rfl
@[simp] theorem State.loadA_backgroundRequest (s : State) (v : Byte) : (s.loadA v).backgroundRequest = s.backgroundRequest := rfl
@[simp] theorem State.loadA_trace (s : State) (v : Byte) : (s.loadA v).trace = s.trace := rfl
@[simp] theorem State.loadA_serial (s : State) (v : Byte) : (s.loadA v).serial = s.serial := rfl
@[simp] theorem State.loadA_reply (s : State) (v : Byte) : (s.loadA v).reply = s.reply := rfl
@[simp] theorem State.loadA_sent (s : State) (v : Byte) : (s.loadA v).sent = s.sent := rfl
@[simp] theorem State.loadA_stolen (s : State) (v : Byte) : (s.loadA v).stolen = s.stolen := rfl
@[simp] theorem State.loadA_collision (s : State) (v : Byte) : (s.loadA v).collision = s.collision := rfl
@[simp] theorem State.loadA_afterSleep (s : State) (v : Byte) : (s.loadA v).afterSleep = s.afterSleep := rfl
@[simp] theorem State.loadA_resetCause (s : State) (v : Byte) : (s.loadA v).resetCause = s.resetCause := rfl
@[simp] theorem State.loadA_wentWrong (s : State) (v : Byte) : (s.loadA v).wentWrong = s.wentWrong := rfl
@[simp] theorem State.loadA_bkgdLowAtResetEnd (s : State) (v : Byte) : (s.loadA v).bkgdLowAtResetEnd = s.bkgdLowAtResetEnd := rfl
@[simp] theorem State.loadA_stores (s : State) (v : Byte) : (s.loadA v).stores = s.stores := rfl
@[simp] theorem State.loadA_freeCount (s : State) (v : Byte) : (s.loadA v).freeCount = s.freeCount := rfl
@[simp] theorem State.loadA_dev (s : State) (v : Byte) : (s.loadA v).dev = s.dev := rfl
@[simp] theorem State.loadA_env (s : State) (v : Byte) : (s.loadA v).env = s.env := rfl

@[simp] theorem State.testZ_a (s : State) (v : Byte) : (s.testZ v).a = s.a := rfl
@[simp] theorem State.testZ_pc (s : State) (v : Byte) : (s.testZ v).pc = s.pc := rfl
@[simp] theorem State.testZ_spc (s : State) (v : Byte) : (s.testZ v).spc = s.spc := rfl
@[simp] theorem State.testZ_z (s : State) (v : Byte) : (s.testZ v).z = zeroFlag v := rfl
@[simp] theorem State.testZ_c (s : State) (v : Byte) : (s.testZ v).c = s.c := rfl
@[simp] theorem State.testZ_x (s : State) (v : Byte) : (s.testZ v).x = s.x := rfl
@[simp] theorem State.testZ_pagesel (s : State) (v : Byte) : (s.testZ v).pagesel = s.pagesel := rfl
@[simp] theorem State.testZ_mem (s : State) (v : Byte) : (s.testZ v).mem = s.mem := rfl
@[simp] theorem State.testZ_mode (s : State) (v : Byte) : (s.testZ v).mode = s.mode := rfl
@[simp] theorem State.testZ_bdcscr (s : State) (v : Byte) : (s.testZ v).bdcscr = s.bdcscr := rfl
@[simp] theorem State.testZ_bdcbkpt (s : State) (v : Byte) : (s.testZ v).bdcbkpt = s.bdcbkpt := rfl
@[simp] theorem State.testZ_wakeRequest (s : State) (v : Byte) : (s.testZ v).wakeRequest = s.wakeRequest := rfl
@[simp] theorem State.testZ_tag (s : State) (v : Byte) : (s.testZ v).tag = s.tag := rfl
@[simp] theorem State.testZ_forcedRequest (s : State) (v : Byte) : (s.testZ v).forcedRequest = s.forcedRequest := rfl
@[simp] theorem State.testZ_backgroundRequest (s : State) (v : Byte) : (s.testZ v).backgroundRequest = s.backgroundRequest := rfl
@[simp] theorem State.testZ_trace (s : State) (v : Byte) : (s.testZ v).trace = s.trace := rfl
@[simp] theorem State.testZ_serial (s : State) (v : Byte) : (s.testZ v).serial = s.serial := rfl
@[simp] theorem State.testZ_reply (s : State) (v : Byte) : (s.testZ v).reply = s.reply := rfl
@[simp] theorem State.testZ_sent (s : State) (v : Byte) : (s.testZ v).sent = s.sent := rfl
@[simp] theorem State.testZ_stolen (s : State) (v : Byte) : (s.testZ v).stolen = s.stolen := rfl
@[simp] theorem State.testZ_collision (s : State) (v : Byte) : (s.testZ v).collision = s.collision := rfl
@[simp] theorem State.testZ_afterSleep (s : State) (v : Byte) : (s.testZ v).afterSleep = s.afterSleep := rfl
@[simp] theorem State.testZ_resetCause (s : State) (v : Byte) : (s.testZ v).resetCause = s.resetCause := rfl
@[simp] theorem State.testZ_wentWrong (s : State) (v : Byte) : (s.testZ v).wentWrong = s.wentWrong := rfl
@[simp] theorem State.testZ_bkgdLowAtResetEnd (s : State) (v : Byte) : (s.testZ v).bkgdLowAtResetEnd = s.bkgdLowAtResetEnd := rfl
@[simp] theorem State.testZ_stores (s : State) (v : Byte) : (s.testZ v).stores = s.stores := rfl
@[simp] theorem State.testZ_freeCount (s : State) (v : Byte) : (s.testZ v).freeCount = s.freeCount := rfl
@[simp] theorem State.testZ_dev (s : State) (v : Byte) : (s.testZ v).dev = s.dev := rfl
@[simp] theorem State.testZ_env (s : State) (v : Byte) : (s.testZ v).env = s.env := rfl

@[simp] theorem State.resultA_a (s : State) (r : Byte × Bool) : (s.resultA r).a = r.1 := rfl
@[simp] theorem State.resultA_pc (s : State) (r : Byte × Bool) : (s.resultA r).pc = s.pc := rfl
@[simp] theorem State.resultA_spc (s : State) (r : Byte × Bool) : (s.resultA r).spc = s.spc := rfl
@[simp] theorem State.resultA_z (s : State) (r : Byte × Bool) : (s.resultA r).z = zeroFlag r.1 := rfl
@[simp] theorem State.resultA_c (s : State) (r : Byte × Bool) : (s.resultA r).c = r.2 := rfl
@[simp] theorem State.resultA_x (s : State) (r : Byte × Bool) : (s.resultA r).x = s.x := rfl
@[simp] theorem State.resultA_pagesel (s : State) (r : Byte × Bool) : (s.resultA r).pagesel = s.pagesel := rfl
@[simp] theorem State.resultA_mem (s : State) (r : Byte × Bool) : (s.resultA r).mem = s.mem := rfl
@[simp] theorem State.resultA_mode (s : State) (r : Byte × Bool) : (s.resultA r).mode = s.mode := rfl
@[simp] theorem State.resultA_bdcscr (s : State) (r : Byte × Bool) : (s.resultA r).bdcscr = s.bdcscr := rfl
@[simp] theorem State.resultA_bdcbkpt (s : State) (r : Byte × Bool) : (s.resultA r).bdcbkpt = s.bdcbkpt := rfl
@[simp] theorem State.resultA_wakeRequest (s : State) (r : Byte × Bool) : (s.resultA r).wakeRequest = s.wakeRequest := rfl
@[simp] theorem State.resultA_tag (s : State) (r : Byte × Bool) : (s.resultA r).tag = s.tag := rfl
@[simp] theorem State.resultA_forcedRequest (s : State) (r : Byte × Bool) : (s.resultA r).forcedRequest = s.forcedRequest := rfl
@[simp] theorem State.resultA_backgroundRequest (s : State) (r : Byte × Bool) : (s.resultA r).backgroundRequest = s.backgroundRequest := rfl
@[simp] theorem State.resultA_trace (s : State) (r : Byte × Bool) : (s.resultA r).trace = s.trace := rfl
@[simp] theorem State.resultA_serial (s : State) (r : Byte × Bool) : (s.resultA r).serial = s.serial := rfl
@[simp] theorem State.resultA_reply (s : State) (r : Byte × Bool) : (s.resultA r).reply = s.reply := rfl
@[simp] theorem State.resultA_sent (s : State) (r : Byte × Bool) : (s.resultA r).sent = s.sent := rfl
@[simp] theorem State.resultA_stolen (s : State) (r : Byte × Bool) : (s.resultA r).stolen = s.stolen := rfl
@[simp] theorem State.resultA_collision (s : State) (r : Byte × Bool) : (s.resultA r).collision = s.collision := rfl
@[simp] theorem State.resultA_afterSleep (s : State) (r : Byte × Bool) : (s.resultA r).afterSleep = s.afterSleep := rfl
@[simp] theorem State.resultA_resetCause (s : State) (r : Byte × Bool) : (s.resultA r).resetCause = s.resetCause := rfl
@[simp] theorem State.resultA_wentWrong (s : State) (r : Byte × Bool) : (s.resultA r).wentWrong = s.wentWrong := rfl
@[simp] theorem State.resultA_bkgdLowAtResetEnd (s : State) (r : Byte × Bool) : (s.resultA r).bkgdLowAtResetEnd = s.bkgdLowAtResetEnd := rfl
@[simp] theorem State.resultA_stores (s : State) (r : Byte × Bool) : (s.resultA r).stores = s.stores := rfl
@[simp] theorem State.resultA_freeCount (s : State) (r : Byte × Bool) : (s.resultA r).freeCount = s.freeCount := rfl
@[simp] theorem State.resultA_dev (s : State) (r : Byte × Bool) : (s.resultA r).dev = s.dev := rfl
@[simp] theorem State.resultA_env (s : State) (r : Byte × Bool) : (s.resultA r).env = s.env := rfl

@[simp] theorem State.compare_a (s : State) (r : Byte × Bool) : (s.compare r).a = s.a := rfl
@[simp] theorem State.compare_pc (s : State) (r : Byte × Bool) : (s.compare r).pc = s.pc := rfl
@[simp] theorem State.compare_spc (s : State) (r : Byte × Bool) : (s.compare r).spc = s.spc := rfl
@[simp] theorem State.compare_z (s : State) (r : Byte × Bool) : (s.compare r).z = zeroFlag r.1 := rfl
@[simp] theorem State.compare_c (s : State) (r : Byte × Bool) : (s.compare r).c = r.2 := rfl
@[simp] theorem State.compare_x (s : State) (r : Byte × Bool) : (s.compare r).x = s.x := rfl
@[simp] theorem State.compare_pagesel (s : State) (r : Byte × Bool) : (s.compare r).pagesel = s.pagesel := rfl
@[simp] theorem State.compare_mem (s : State) (r : Byte × Bool) : (s.compare r).mem = s.mem := rfl
@[simp] theorem State.compare_mode (s : State) (r : Byte × Bool) : (s.compare r).mode = s.mode := rfl
@[simp] theorem State.compare_bdcscr (s : State) (r : Byte × Bool) : (s.compare r).bdcscr = s.bdcscr := rfl
@[simp] theorem State.compare_bdcbkpt (s : State) (r : Byte × Bool) : (s.compare r).bdcbkpt = s.bdcbkpt := rfl
@[simp] theorem State.compare_wakeRequest (s : State) (r : Byte × Bool) : (s.compare r).wakeRequest = s.wakeRequest := rfl
@[simp] theorem State.compare_tag (s : State) (r : Byte × Bool) : (s.compare r).tag = s.tag := rfl
@[simp] theorem State.compare_forcedRequest (s : State) (r : Byte × Bool) : (s.compare r).forcedRequest = s.forcedRequest := rfl
@[simp] theorem State.compare_backgroundRequest (s : State) (r : Byte × Bool) : (s.compare r).backgroundRequest = s.backgroundRequest := rfl
@[simp] theorem State.compare_trace (s : State) (r : Byte × Bool) : (s.compare r).trace = s.trace := rfl
@[simp] theorem State.compare_serial (s : State) (r : Byte × Bool) : (s.compare r).serial = s.serial := rfl
@[simp] theorem State.compare_reply (s : State) (r : Byte × Bool) : (s.compare r).reply = s.reply := rfl
@[simp] theorem State.compare_sent (s : State) (r : Byte × Bool) : (s.compare r).sent = s.sent := rfl
@[simp] theorem State.compare_stolen (s : State) (r : Byte × Bool) : (s.compare r).stolen = s.stolen := rfl
@[simp] theorem State.compare_collision (s : State) (r : Byte × Bool) : (s.compare r).collision = s.collision := rfl
@[simp] theorem State.compare_afterSleep (s : State) (r : Byte × Bool) : (s.compare r).afterSleep = s.afterSleep := rfl
@[simp] theorem State.compare_resetCause (s : State) (r : Byte × Bool) : (s.compare r).resetCause = s.resetCause := rfl
@[simp] theorem State.compare_wentWrong (s : State) (r : Byte × Bool) : (s.compare r).wentWrong = s.wentWrong := rfl
@[simp] theorem State.compare_bkgdLowAtResetEnd (s : State) (r : Byte × Bool) : (s.compare r).bkgdLowAtResetEnd = s.bkgdLowAtResetEnd := rfl
@[simp] theorem State.compare_stores (s : State) (r : Byte × Bool) : (s.compare r).stores = s.stores := rfl
@[simp] theorem State.compare_freeCount (s : State) (r : Byte × Bool) : (s.compare r).freeCount = s.freeCount := rfl
@[simp] theorem State.compare_dev (s : State) (r : Byte × Bool) : (s.compare r).dev = s.dev := rfl
@[simp] theorem State.compare_env (s : State) (r : Byte × Bool) : (s.compare r).env = s.env := rfl

@[simp] theorem State.touch_a (s : State) (p : Addr) : (s.touch p).a = s.a := rfl
@[simp] theorem State.touch_pc (s : State) (p : Addr) : (s.touch p).pc = s.pc := rfl
@[simp] theorem State.touch_spc (s : State) (p : Addr) : (s.touch p).spc = s.spc := rfl
@[simp] theorem State.touch_z (s : State) (p : Addr) : (s.touch p).z = s.z := rfl
@[simp] theorem State.touch_c (s : State) (p : Addr) : (s.touch p).c = s.c := rfl
@[simp] theorem State.touch_x (s : State) (p : Addr) : (s.touch p).x = s.x := rfl
@[simp] theorem State.touch_pagesel (s : State) (p : Addr) : (s.touch p).pagesel = s.pagesel := rfl
@[simp] theorem State.touch_mem (s : State) (p : Addr) : (s.touch p).mem = s.mem := rfl
@[simp] theorem State.touch_mode (s : State) (p : Addr) : (s.touch p).mode = s.mode := rfl
@[simp] theorem State.touch_bdcscr (s : State) (p : Addr) : (s.touch p).bdcscr = s.bdcscr := rfl
@[simp] theorem State.touch_bdcbkpt (s : State) (p : Addr) : (s.touch p).bdcbkpt = s.bdcbkpt := rfl
@[simp] theorem State.touch_wakeRequest (s : State) (p : Addr) : (s.touch p).wakeRequest = s.wakeRequest := rfl
@[simp] theorem State.touch_tag (s : State) (p : Addr) : (s.touch p).tag = s.tag := rfl
@[simp] theorem State.touch_forcedRequest (s : State) (p : Addr) : (s.touch p).forcedRequest = (s.forcedRequest || s.breakpointHit p) := rfl
@[simp] theorem State.touch_backgroundRequest (s : State) (p : Addr) : (s.touch p).backgroundRequest = s.backgroundRequest := rfl
@[simp] theorem State.touch_trace (s : State) (p : Addr) : (s.touch p).trace = s.trace := rfl
@[simp] theorem State.touch_serial (s : State) (p : Addr) : (s.touch p).serial = s.serial := rfl
@[simp] theorem State.touch_reply (s : State) (p : Addr) : (s.touch p).reply = s.reply := rfl
@[simp] theorem State.touch_sent (s : State) (p : Addr) : (s.touch p).sent = s.sent := rfl
@[simp] theorem State.touch_stolen (s : State) (p : Addr) : (s.touch p).stolen = s.stolen := rfl
@[simp] theorem State.touch_collision (s : State) (p : Addr) : (s.touch p).collision = s.collision := rfl
@[simp] theorem State.touch_afterSleep (s : State) (p : Addr) : (s.touch p).afterSleep = s.afterSleep := rfl
@[simp] theorem State.touch_resetCause (s : State) (p : Addr) : (s.touch p).resetCause = s.resetCause := rfl
@[simp] theorem State.touch_wentWrong (s : State) (p : Addr) : (s.touch p).wentWrong = s.wentWrong := rfl
@[simp] theorem State.touch_bkgdLowAtResetEnd (s : State) (p : Addr) : (s.touch p).bkgdLowAtResetEnd = s.bkgdLowAtResetEnd := rfl
@[simp] theorem State.touch_stores (s : State) (p : Addr) : (s.touch p).stores = s.stores := rfl
@[simp] theorem State.touch_freeCount (s : State) (p : Addr) : (s.touch p).freeCount = s.freeCount := rfl
@[simp] theorem State.touch_dev (s : State) (p : Addr) : (s.touch p).dev = s.dev := rfl
@[simp] theorem State.touch_env (s : State) (p : Addr) : (s.touch p).env = s.env := rfl

@[simp] theorem State.afterRead_a (s : State) (p : Addr) : (s.afterRead p).a = s.a := rfl
@[simp] theorem State.afterRead_pc (s : State) (p : Addr) : (s.afterRead p).pc = s.pc := rfl
@[simp] theorem State.afterRead_spc (s : State) (p : Addr) : (s.afterRead p).spc = s.spc := rfl
@[simp] theorem State.afterRead_z (s : State) (p : Addr) : (s.afterRead p).z = s.z := rfl
@[simp] theorem State.afterRead_c (s : State) (p : Addr) : (s.afterRead p).c = s.c := rfl
@[simp] theorem State.afterRead_x (s : State) (p : Addr) : (s.afterRead p).x = s.x := rfl
@[simp] theorem State.afterRead_pagesel (s : State) (p : Addr) : (s.afterRead p).pagesel = s.pagesel := rfl
@[simp] theorem State.afterRead_mem (s : State) (p : Addr) : (s.afterRead p).mem = s.mem := rfl
@[simp] theorem State.afterRead_mode (s : State) (p : Addr) : (s.afterRead p).mode = s.mode := rfl
@[simp] theorem State.afterRead_bdcscr (s : State) (p : Addr) : (s.afterRead p).bdcscr = s.bdcscr := rfl
@[simp] theorem State.afterRead_bdcbkpt (s : State) (p : Addr) : (s.afterRead p).bdcbkpt = s.bdcbkpt := rfl
@[simp] theorem State.afterRead_wakeRequest (s : State) (p : Addr) : (s.afterRead p).wakeRequest = s.wakeRequest := rfl
@[simp] theorem State.afterRead_tag (s : State) (p : Addr) : (s.afterRead p).tag = s.tag := rfl
@[simp] theorem State.afterRead_forcedRequest (s : State) (p : Addr) : (s.afterRead p).forcedRequest = (s.forcedRequest || s.breakpointHit p) := rfl
@[simp] theorem State.afterRead_backgroundRequest (s : State) (p : Addr) : (s.afterRead p).backgroundRequest = s.backgroundRequest := rfl
@[simp] theorem State.afterRead_trace (s : State) (p : Addr) : (s.afterRead p).trace = s.trace := rfl
@[simp] theorem State.afterRead_serial (s : State) (p : Addr) : (s.afterRead p).serial = s.serial := rfl
@[simp] theorem State.afterRead_reply (s : State) (p : Addr) : (s.afterRead p).reply = s.reply := rfl
@[simp] theorem State.afterRead_sent (s : State) (p : Addr) : (s.afterRead p).sent = s.sent := rfl
@[simp] theorem State.afterRead_stolen (s : State) (p : Addr) : (s.afterRead p).stolen = s.stolen := rfl
@[simp] theorem State.afterRead_collision (s : State) (p : Addr) : (s.afterRead p).collision = s.collision := rfl
@[simp] theorem State.afterRead_afterSleep (s : State) (p : Addr) : (s.afterRead p).afterSleep = s.afterSleep := rfl
@[simp] theorem State.afterRead_resetCause (s : State) (p : Addr) : (s.afterRead p).resetCause = s.resetCause := rfl
@[simp] theorem State.afterRead_wentWrong (s : State) (p : Addr) : (s.afterRead p).wentWrong = s.wentWrong := rfl
@[simp] theorem State.afterRead_bkgdLowAtResetEnd (s : State) (p : Addr) : (s.afterRead p).bkgdLowAtResetEnd = s.bkgdLowAtResetEnd := rfl
@[simp] theorem State.afterRead_stores (s : State) (p : Addr) : (s.afterRead p).stores = s.stores := rfl
@[simp] theorem State.afterRead_freeCount (s : State) (p : Addr) : (s.afterRead p).freeCount = s.freeCount + s.draws p := rfl
@[simp] theorem State.afterRead_dev (s : State) (p : Addr) : (s.afterRead p).dev = s.dev := rfl
@[simp] theorem State.afterRead_env (s : State) (p : Addr) : (s.afterRead p).env = s.env := rfl

@[simp] theorem State.noteStore_a (s : State) (p : Addr) : (s.noteStore p).a = s.a := rfl
@[simp] theorem State.noteStore_pc (s : State) (p : Addr) : (s.noteStore p).pc = s.pc := rfl
@[simp] theorem State.noteStore_spc (s : State) (p : Addr) : (s.noteStore p).spc = s.spc := rfl
@[simp] theorem State.noteStore_z (s : State) (p : Addr) : (s.noteStore p).z = s.z := rfl
@[simp] theorem State.noteStore_c (s : State) (p : Addr) : (s.noteStore p).c = s.c := rfl
@[simp] theorem State.noteStore_x (s : State) (p : Addr) : (s.noteStore p).x = s.x := rfl
@[simp] theorem State.noteStore_pagesel (s : State) (p : Addr) : (s.noteStore p).pagesel = s.pagesel := rfl
@[simp] theorem State.noteStore_mem (s : State) (p : Addr) : (s.noteStore p).mem = s.mem := rfl
@[simp] theorem State.noteStore_mode (s : State) (p : Addr) : (s.noteStore p).mode = s.mode := rfl
@[simp] theorem State.noteStore_bdcscr (s : State) (p : Addr) : (s.noteStore p).bdcscr = s.bdcscr := rfl
@[simp] theorem State.noteStore_bdcbkpt (s : State) (p : Addr) : (s.noteStore p).bdcbkpt = s.bdcbkpt := rfl
@[simp] theorem State.noteStore_wakeRequest (s : State) (p : Addr) : (s.noteStore p).wakeRequest = s.wakeRequest := rfl
@[simp] theorem State.noteStore_tag (s : State) (p : Addr) : (s.noteStore p).tag = s.tag := rfl
@[simp] theorem State.noteStore_forcedRequest (s : State) (p : Addr) : (s.noteStore p).forcedRequest = s.forcedRequest := rfl
@[simp] theorem State.noteStore_backgroundRequest (s : State) (p : Addr) : (s.noteStore p).backgroundRequest = s.backgroundRequest := rfl
@[simp] theorem State.noteStore_trace (s : State) (p : Addr) : (s.noteStore p).trace = s.trace := rfl
@[simp] theorem State.noteStore_serial (s : State) (p : Addr) : (s.noteStore p).serial = s.serial := rfl
@[simp] theorem State.noteStore_reply (s : State) (p : Addr) : (s.noteStore p).reply = s.reply := rfl
@[simp] theorem State.noteStore_sent (s : State) (p : Addr) : (s.noteStore p).sent = s.sent := rfl
@[simp] theorem State.noteStore_stolen (s : State) (p : Addr) : (s.noteStore p).stolen = s.stolen := rfl
@[simp] theorem State.noteStore_collision (s : State) (p : Addr) : (s.noteStore p).collision = s.collision := rfl
@[simp] theorem State.noteStore_afterSleep (s : State) (p : Addr) : (s.noteStore p).afterSleep = s.afterSleep := rfl
@[simp] theorem State.noteStore_resetCause (s : State) (p : Addr) : (s.noteStore p).resetCause = s.resetCause := rfl
@[simp] theorem State.noteStore_wentWrong (s : State) (p : Addr) : (s.noteStore p).wentWrong = s.wentWrong := rfl
@[simp] theorem State.noteStore_bkgdLowAtResetEnd (s : State) (p : Addr) : (s.noteStore p).bkgdLowAtResetEnd = s.bkgdLowAtResetEnd := rfl
@[simp] theorem State.noteStore_stores (s : State) (p : Addr) : (s.noteStore p).stores = (p, (p - s.pc).toNat) :: s.stores := rfl
@[simp] theorem State.noteStore_freeCount (s : State) (p : Addr) : (s.noteStore p).freeCount = s.freeCount := rfl
@[simp] theorem State.noteStore_dev (s : State) (p : Addr) : (s.noteStore p).dev = s.dev := rfl
@[simp] theorem State.noteStore_env (s : State) (p : Addr) : (s.noteStore p).env = s.env := rfl

@[simp] theorem State.enterBackground_a (s : State) : s.enterBackground.a = s.a := rfl
@[simp] theorem State.enterBackground_pc (s : State) : s.enterBackground.pc = s.pc := rfl
@[simp] theorem State.enterBackground_spc (s : State) : s.enterBackground.spc = s.spc := rfl
@[simp] theorem State.enterBackground_z (s : State) : s.enterBackground.z = s.z := rfl
@[simp] theorem State.enterBackground_c (s : State) : s.enterBackground.c = s.c := rfl
@[simp] theorem State.enterBackground_x (s : State) : s.enterBackground.x = s.x := rfl
@[simp] theorem State.enterBackground_pagesel (s : State) : s.enterBackground.pagesel = s.pagesel := rfl
@[simp] theorem State.enterBackground_mem (s : State) : s.enterBackground.mem = s.mem := rfl
@[simp] theorem State.enterBackground_mode (s : State) : s.enterBackground.mode = .background := rfl
@[simp] theorem State.enterBackground_bdcscr (s : State) : s.enterBackground.bdcscr = { s.bdcscr with bdmact := true } := rfl
@[simp] theorem State.enterBackground_bdcbkpt (s : State) : s.enterBackground.bdcbkpt = s.bdcbkpt := rfl
@[simp] theorem State.enterBackground_wakeRequest (s : State) : s.enterBackground.wakeRequest = s.wakeRequest := rfl
@[simp] theorem State.enterBackground_tag (s : State) : s.enterBackground.tag = false := rfl
@[simp] theorem State.enterBackground_forcedRequest (s : State) : s.enterBackground.forcedRequest = false := rfl
@[simp] theorem State.enterBackground_backgroundRequest (s : State) : s.enterBackground.backgroundRequest = false := rfl
@[simp] theorem State.enterBackground_trace (s : State) : s.enterBackground.trace = false := rfl
@[simp] theorem State.enterBackground_serial (s : State) : s.enterBackground.serial = s.serial := rfl
@[simp] theorem State.enterBackground_reply (s : State) : s.enterBackground.reply = s.reply := rfl
@[simp] theorem State.enterBackground_sent (s : State) : s.enterBackground.sent = s.sent := rfl
@[simp] theorem State.enterBackground_stolen (s : State) : s.enterBackground.stolen = s.stolen := rfl
@[simp] theorem State.enterBackground_collision (s : State) : s.enterBackground.collision = s.collision := rfl
@[simp] theorem State.enterBackground_afterSleep (s : State) : s.enterBackground.afterSleep = s.afterSleep := rfl
@[simp] theorem State.enterBackground_resetCause (s : State) : s.enterBackground.resetCause = s.resetCause := rfl
@[simp] theorem State.enterBackground_wentWrong (s : State) : s.enterBackground.wentWrong = s.wentWrong := rfl
@[simp] theorem State.enterBackground_bkgdLowAtResetEnd (s : State) : s.enterBackground.bkgdLowAtResetEnd = s.bkgdLowAtResetEnd := rfl
@[simp] theorem State.enterBackground_stores (s : State) : s.enterBackground.stores = s.stores := rfl
@[simp] theorem State.enterBackground_freeCount (s : State) : s.enterBackground.freeCount = s.freeCount := rfl
@[simp] theorem State.enterBackground_dev (s : State) : s.enterBackground.dev = s.dev := rfl
@[simp] theorem State.enterBackground_env (s : State) : s.enterBackground.env = s.env := rfl

@[simp] theorem State.leaveBackground_a (s : State) : s.leaveBackground.a = s.a := rfl
@[simp] theorem State.leaveBackground_pc (s : State) : s.leaveBackground.pc = s.pc := rfl
@[simp] theorem State.leaveBackground_spc (s : State) : s.leaveBackground.spc = s.spc := rfl
@[simp] theorem State.leaveBackground_z (s : State) : s.leaveBackground.z = s.z := rfl
@[simp] theorem State.leaveBackground_c (s : State) : s.leaveBackground.c = s.c := rfl
@[simp] theorem State.leaveBackground_x (s : State) : s.leaveBackground.x = s.x := rfl
@[simp] theorem State.leaveBackground_pagesel (s : State) : s.leaveBackground.pagesel = s.pagesel := rfl
@[simp] theorem State.leaveBackground_mem (s : State) : s.leaveBackground.mem = s.mem := rfl
@[simp] theorem State.leaveBackground_mode (s : State) : s.leaveBackground.mode = .run := rfl
@[simp] theorem State.leaveBackground_bdcscr (s : State) : s.leaveBackground.bdcscr = { s.bdcscr with bdmact := false, ws := false } := rfl
@[simp] theorem State.leaveBackground_bdcbkpt (s : State) : s.leaveBackground.bdcbkpt = s.bdcbkpt := rfl
@[simp] theorem State.leaveBackground_wakeRequest (s : State) : s.leaveBackground.wakeRequest = s.wakeRequest := rfl
@[simp] theorem State.leaveBackground_tag (s : State) : s.leaveBackground.tag = s.tag := rfl
@[simp] theorem State.leaveBackground_forcedRequest (s : State) : s.leaveBackground.forcedRequest = s.forcedRequest := rfl
@[simp] theorem State.leaveBackground_backgroundRequest (s : State) : s.leaveBackground.backgroundRequest = s.backgroundRequest := rfl
@[simp] theorem State.leaveBackground_trace (s : State) : s.leaveBackground.trace = s.trace := rfl
@[simp] theorem State.leaveBackground_serial (s : State) : s.leaveBackground.serial = s.serial := rfl
@[simp] theorem State.leaveBackground_reply (s : State) : s.leaveBackground.reply = s.reply := rfl
@[simp] theorem State.leaveBackground_sent (s : State) : s.leaveBackground.sent = s.sent := rfl
@[simp] theorem State.leaveBackground_stolen (s : State) : s.leaveBackground.stolen = s.stolen := rfl
@[simp] theorem State.leaveBackground_collision (s : State) : s.leaveBackground.collision = s.collision := rfl
@[simp] theorem State.leaveBackground_afterSleep (s : State) : s.leaveBackground.afterSleep = false := rfl
@[simp] theorem State.leaveBackground_resetCause (s : State) : s.leaveBackground.resetCause = s.resetCause := rfl
@[simp] theorem State.leaveBackground_wentWrong (s : State) : s.leaveBackground.wentWrong = s.wentWrong := rfl
@[simp] theorem State.leaveBackground_bkgdLowAtResetEnd (s : State) : s.leaveBackground.bkgdLowAtResetEnd = s.bkgdLowAtResetEnd := rfl
@[simp] theorem State.leaveBackground_stores (s : State) : s.leaveBackground.stores = [] := rfl
@[simp] theorem State.leaveBackground_freeCount (s : State) : s.leaveBackground.freeCount = s.freeCount := rfl
@[simp] theorem State.leaveBackground_dev (s : State) : s.leaveBackground.dev = s.dev := rfl
@[simp] theorem State.leaveBackground_env (s : State) : s.leaveBackground.env = s.env := rfl

@[simp] theorem State.wakeUp_a (s : State) : s.wakeUp.a = s.a := rfl
@[simp] theorem State.wakeUp_pc (s : State) : s.wakeUp.pc = s.pc := rfl
@[simp] theorem State.wakeUp_spc (s : State) : s.wakeUp.spc = s.spc := rfl
@[simp] theorem State.wakeUp_z (s : State) : s.wakeUp.z = s.z := rfl
@[simp] theorem State.wakeUp_c (s : State) : s.wakeUp.c = s.c := rfl
@[simp] theorem State.wakeUp_x (s : State) : s.wakeUp.x = s.x := rfl
@[simp] theorem State.wakeUp_pagesel (s : State) : s.wakeUp.pagesel = s.pagesel := rfl
@[simp] theorem State.wakeUp_mem (s : State) : s.wakeUp.mem = s.mem := rfl
@[simp] theorem State.wakeUp_mode (s : State) : s.wakeUp.mode = .run := rfl
@[simp] theorem State.wakeUp_bdcscr (s : State) : s.wakeUp.bdcscr = { s.bdcscr with ws := false } := rfl
@[simp] theorem State.wakeUp_bdcbkpt (s : State) : s.wakeUp.bdcbkpt = s.bdcbkpt := rfl
@[simp] theorem State.wakeUp_wakeRequest (s : State) : s.wakeUp.wakeRequest = s.wakeRequest := rfl
@[simp] theorem State.wakeUp_tag (s : State) : s.wakeUp.tag = s.tag := rfl
@[simp] theorem State.wakeUp_forcedRequest (s : State) : s.wakeUp.forcedRequest = s.forcedRequest := rfl
@[simp] theorem State.wakeUp_backgroundRequest (s : State) : s.wakeUp.backgroundRequest = s.backgroundRequest := rfl
@[simp] theorem State.wakeUp_trace (s : State) : s.wakeUp.trace = s.trace := rfl
@[simp] theorem State.wakeUp_serial (s : State) : s.wakeUp.serial = s.serial := rfl
@[simp] theorem State.wakeUp_reply (s : State) : s.wakeUp.reply = s.reply := rfl
@[simp] theorem State.wakeUp_sent (s : State) : s.wakeUp.sent = s.sent := rfl
@[simp] theorem State.wakeUp_stolen (s : State) : s.wakeUp.stolen = s.stolen := rfl
@[simp] theorem State.wakeUp_collision (s : State) : s.wakeUp.collision = s.collision := rfl
@[simp] theorem State.wakeUp_afterSleep (s : State) : s.wakeUp.afterSleep = s.afterSleep := rfl
@[simp] theorem State.wakeUp_resetCause (s : State) : s.wakeUp.resetCause = s.resetCause := rfl
@[simp] theorem State.wakeUp_wentWrong (s : State) : s.wakeUp.wentWrong = s.wentWrong := rfl
@[simp] theorem State.wakeUp_bkgdLowAtResetEnd (s : State) : s.wakeUp.bkgdLowAtResetEnd = s.bkgdLowAtResetEnd := rfl
@[simp] theorem State.wakeUp_stores (s : State) : s.wakeUp.stores = s.stores := rfl
@[simp] theorem State.wakeUp_freeCount (s : State) : s.wakeUp.freeCount = s.freeCount := rfl
@[simp] theorem State.wakeUp_dev (s : State) : s.wakeUp.dev = s.dev := rfl
@[simp] theorem State.wakeUp_env (s : State) : s.wakeUp.env = s.env := rfl

@[simp] theorem State.accessFailed_a (s : State) (failed : Bool) : (s.accessFailed failed).a = s.a := rfl
@[simp] theorem State.accessFailed_pc (s : State) (failed : Bool) : (s.accessFailed failed).pc = s.pc := rfl
@[simp] theorem State.accessFailed_spc (s : State) (failed : Bool) : (s.accessFailed failed).spc = s.spc := rfl
@[simp] theorem State.accessFailed_z (s : State) (failed : Bool) : (s.accessFailed failed).z = s.z := rfl
@[simp] theorem State.accessFailed_c (s : State) (failed : Bool) : (s.accessFailed failed).c = s.c := rfl
@[simp] theorem State.accessFailed_x (s : State) (failed : Bool) : (s.accessFailed failed).x = s.x := rfl
@[simp] theorem State.accessFailed_pagesel (s : State) (failed : Bool) : (s.accessFailed failed).pagesel = s.pagesel := rfl
@[simp] theorem State.accessFailed_mem (s : State) (failed : Bool) : (s.accessFailed failed).mem = s.mem := rfl
@[simp] theorem State.accessFailed_mode (s : State) (failed : Bool) : (s.accessFailed failed).mode = s.mode := rfl
@[simp] theorem State.accessFailed_bdcscr (s : State) (failed : Bool) : (s.accessFailed failed).bdcscr = { s.bdcscr with wsf := failed } := rfl
@[simp] theorem State.accessFailed_bdcbkpt (s : State) (failed : Bool) : (s.accessFailed failed).bdcbkpt = s.bdcbkpt := rfl
@[simp] theorem State.accessFailed_wakeRequest (s : State) (failed : Bool) : (s.accessFailed failed).wakeRequest = s.wakeRequest := rfl
@[simp] theorem State.accessFailed_tag (s : State) (failed : Bool) : (s.accessFailed failed).tag = s.tag := rfl
@[simp] theorem State.accessFailed_forcedRequest (s : State) (failed : Bool) : (s.accessFailed failed).forcedRequest = s.forcedRequest := rfl
@[simp] theorem State.accessFailed_backgroundRequest (s : State) (failed : Bool) : (s.accessFailed failed).backgroundRequest = s.backgroundRequest := rfl
@[simp] theorem State.accessFailed_trace (s : State) (failed : Bool) : (s.accessFailed failed).trace = s.trace := rfl
@[simp] theorem State.accessFailed_serial (s : State) (failed : Bool) : (s.accessFailed failed).serial = s.serial := rfl
@[simp] theorem State.accessFailed_reply (s : State) (failed : Bool) : (s.accessFailed failed).reply = s.reply := rfl
@[simp] theorem State.accessFailed_sent (s : State) (failed : Bool) : (s.accessFailed failed).sent = s.sent := rfl
@[simp] theorem State.accessFailed_stolen (s : State) (failed : Bool) : (s.accessFailed failed).stolen = s.stolen := rfl
@[simp] theorem State.accessFailed_collision (s : State) (failed : Bool) : (s.accessFailed failed).collision = s.collision := rfl
@[simp] theorem State.accessFailed_afterSleep (s : State) (failed : Bool) : (s.accessFailed failed).afterSleep = s.afterSleep := rfl
@[simp] theorem State.accessFailed_resetCause (s : State) (failed : Bool) : (s.accessFailed failed).resetCause = s.resetCause := rfl
@[simp] theorem State.accessFailed_wentWrong (s : State) (failed : Bool) : (s.accessFailed failed).wentWrong = s.wentWrong := rfl
@[simp] theorem State.accessFailed_bkgdLowAtResetEnd (s : State) (failed : Bool) : (s.accessFailed failed).bkgdLowAtResetEnd = s.bkgdLowAtResetEnd := rfl
@[simp] theorem State.accessFailed_stores (s : State) (failed : Bool) : (s.accessFailed failed).stores = s.stores := rfl
@[simp] theorem State.accessFailed_freeCount (s : State) (failed : Bool) : (s.accessFailed failed).freeCount = s.freeCount := rfl
@[simp] theorem State.accessFailed_dev (s : State) (failed : Bool) : (s.accessFailed failed).dev = s.dev := rfl
@[simp] theorem State.accessFailed_env (s : State) (failed : Bool) : (s.accessFailed failed).env = s.env := rfl

@[simp] theorem State.answer_a (s : State) (bytes : List Byte) : (s.answer bytes).a = s.a := rfl
@[simp] theorem State.answer_pc (s : State) (bytes : List Byte) : (s.answer bytes).pc = s.pc := rfl
@[simp] theorem State.answer_spc (s : State) (bytes : List Byte) : (s.answer bytes).spc = s.spc := rfl
@[simp] theorem State.answer_z (s : State) (bytes : List Byte) : (s.answer bytes).z = s.z := rfl
@[simp] theorem State.answer_c (s : State) (bytes : List Byte) : (s.answer bytes).c = s.c := rfl
@[simp] theorem State.answer_x (s : State) (bytes : List Byte) : (s.answer bytes).x = s.x := rfl
@[simp] theorem State.answer_pagesel (s : State) (bytes : List Byte) : (s.answer bytes).pagesel = s.pagesel := rfl
@[simp] theorem State.answer_mem (s : State) (bytes : List Byte) : (s.answer bytes).mem = s.mem := rfl
@[simp] theorem State.answer_mode (s : State) (bytes : List Byte) : (s.answer bytes).mode = s.mode := rfl
@[simp] theorem State.answer_bdcscr (s : State) (bytes : List Byte) : (s.answer bytes).bdcscr = s.bdcscr := rfl
@[simp] theorem State.answer_bdcbkpt (s : State) (bytes : List Byte) : (s.answer bytes).bdcbkpt = s.bdcbkpt := rfl
@[simp] theorem State.answer_wakeRequest (s : State) (bytes : List Byte) : (s.answer bytes).wakeRequest = s.wakeRequest := rfl
@[simp] theorem State.answer_tag (s : State) (bytes : List Byte) : (s.answer bytes).tag = s.tag := rfl
@[simp] theorem State.answer_forcedRequest (s : State) (bytes : List Byte) : (s.answer bytes).forcedRequest = s.forcedRequest := rfl
@[simp] theorem State.answer_backgroundRequest (s : State) (bytes : List Byte) : (s.answer bytes).backgroundRequest = s.backgroundRequest := rfl
@[simp] theorem State.answer_trace (s : State) (bytes : List Byte) : (s.answer bytes).trace = s.trace := rfl
@[simp] theorem State.answer_serial (s : State) (bytes : List Byte) : (s.answer bytes).serial = s.serial := rfl
@[simp] theorem State.answer_reply (s : State) (bytes : List Byte) : (s.answer bytes).reply = bytes := rfl
@[simp] theorem State.answer_sent (s : State) (bytes : List Byte) : (s.answer bytes).sent = s.sent := rfl
@[simp] theorem State.answer_stolen (s : State) (bytes : List Byte) : (s.answer bytes).stolen = s.stolen := rfl
@[simp] theorem State.answer_collision (s : State) (bytes : List Byte) : (s.answer bytes).collision = s.collision := rfl
@[simp] theorem State.answer_afterSleep (s : State) (bytes : List Byte) : (s.answer bytes).afterSleep = s.afterSleep := rfl
@[simp] theorem State.answer_resetCause (s : State) (bytes : List Byte) : (s.answer bytes).resetCause = s.resetCause := rfl
@[simp] theorem State.answer_wentWrong (s : State) (bytes : List Byte) : (s.answer bytes).wentWrong = s.wentWrong := rfl
@[simp] theorem State.answer_bkgdLowAtResetEnd (s : State) (bytes : List Byte) : (s.answer bytes).bkgdLowAtResetEnd = s.bkgdLowAtResetEnd := rfl
@[simp] theorem State.answer_stores (s : State) (bytes : List Byte) : (s.answer bytes).stores = s.stores := rfl
@[simp] theorem State.answer_freeCount (s : State) (bytes : List Byte) : (s.answer bytes).freeCount = s.freeCount := rfl
@[simp] theorem State.answer_dev (s : State) (bytes : List Byte) : (s.answer bytes).dev = s.dev := rfl
@[simp] theorem State.answer_env (s : State) (bytes : List Byte) : (s.answer bytes).env = s.env := rfl

@[simp] theorem State.delivered_a (s : State) : s.delivered.a = s.a := rfl
@[simp] theorem State.delivered_pc (s : State) : s.delivered.pc = s.pc := rfl
@[simp] theorem State.delivered_spc (s : State) : s.delivered.spc = s.spc := rfl
@[simp] theorem State.delivered_z (s : State) : s.delivered.z = s.z := rfl
@[simp] theorem State.delivered_c (s : State) : s.delivered.c = s.c := rfl
@[simp] theorem State.delivered_x (s : State) : s.delivered.x = s.x := rfl
@[simp] theorem State.delivered_pagesel (s : State) : s.delivered.pagesel = s.pagesel := rfl
@[simp] theorem State.delivered_mem (s : State) : s.delivered.mem = s.mem := rfl
@[simp] theorem State.delivered_mode (s : State) : s.delivered.mode = s.mode := rfl
@[simp] theorem State.delivered_bdcscr (s : State) : s.delivered.bdcscr = s.bdcscr := rfl
@[simp] theorem State.delivered_bdcbkpt (s : State) : s.delivered.bdcbkpt = s.bdcbkpt := rfl
@[simp] theorem State.delivered_wakeRequest (s : State) : s.delivered.wakeRequest = s.wakeRequest := rfl
@[simp] theorem State.delivered_tag (s : State) : s.delivered.tag = s.tag := rfl
@[simp] theorem State.delivered_forcedRequest (s : State) : s.delivered.forcedRequest = s.forcedRequest := rfl
@[simp] theorem State.delivered_backgroundRequest (s : State) : s.delivered.backgroundRequest = s.backgroundRequest := rfl
@[simp] theorem State.delivered_trace (s : State) : s.delivered.trace = s.trace := rfl
@[simp] theorem State.delivered_serial (s : State) : s.delivered.serial = s.serial := rfl
@[simp] theorem State.delivered_reply (s : State) : s.delivered.reply = [] := rfl
@[simp] theorem State.delivered_sent (s : State) : s.delivered.sent = s.sent ++ s.reply := rfl
@[simp] theorem State.delivered_stolen (s : State) : s.delivered.stolen = s.stolen := rfl
@[simp] theorem State.delivered_collision (s : State) : s.delivered.collision = s.collision := rfl
@[simp] theorem State.delivered_afterSleep (s : State) : s.delivered.afterSleep = s.afterSleep := rfl
@[simp] theorem State.delivered_resetCause (s : State) : s.delivered.resetCause = s.resetCause := rfl
@[simp] theorem State.delivered_wentWrong (s : State) : s.delivered.wentWrong = s.wentWrong := rfl
@[simp] theorem State.delivered_bkgdLowAtResetEnd (s : State) : s.delivered.bkgdLowAtResetEnd = s.bkgdLowAtResetEnd := rfl
@[simp] theorem State.delivered_stores (s : State) : s.delivered.stores = s.stores := rfl
@[simp] theorem State.delivered_freeCount (s : State) : s.delivered.freeCount = s.freeCount := rfl
@[simp] theorem State.delivered_dev (s : State) : s.delivered.dev = s.dev := rfl
@[simp] theorem State.delivered_env (s : State) : s.delivered.env = s.env := rfl

@[simp] theorem State.enterReset_a (s : State) (cause : ResetCause) : (s.enterReset cause).a = 0#8 := rfl
@[simp] theorem State.enterReset_pc (s : State) (cause : ResetCause) : (s.enterReset cause).pc = resetAddress := rfl
@[simp] theorem State.enterReset_spc (s : State) (cause : ResetCause) : (s.enterReset cause).spc = resetAddress := rfl
@[simp] theorem State.enterReset_z (s : State) (cause : ResetCause) : (s.enterReset cause).z = false := rfl
@[simp] theorem State.enterReset_c (s : State) (cause : ResetCause) : (s.enterReset cause).c = false := rfl
@[simp] theorem State.enterReset_x (s : State) (cause : ResetCause) : (s.enterReset cause).x = 0#8 := rfl
@[simp] theorem State.enterReset_pagesel (s : State) (cause : ResetCause) : (s.enterReset cause).pagesel = s.dev.pageselReset := rfl
@[simp] theorem State.enterReset_mem (s : State) (cause : ResetCause) : (s.enterReset cause).mem = s.mem := rfl
@[simp] theorem State.enterReset_mode (s : State) (cause : ResetCause) : (s.enterReset cause).mode = .reset := rfl
@[simp] theorem State.enterReset_bdcscr (s : State) (cause : ResetCause) : (s.enterReset cause).bdcscr = Bdcscr.normalReset := rfl
@[simp] theorem State.enterReset_bdcbkpt (s : State) (cause : ResetCause) : (s.enterReset cause).bdcbkpt = s.dev.bdcbkptReset := rfl
@[simp] theorem State.enterReset_wakeRequest (s : State) (cause : ResetCause) : (s.enterReset cause).wakeRequest = false := rfl
@[simp] theorem State.enterReset_tag (s : State) (cause : ResetCause) : (s.enterReset cause).tag = false := rfl
@[simp] theorem State.enterReset_forcedRequest (s : State) (cause : ResetCause) : (s.enterReset cause).forcedRequest = false := rfl
@[simp] theorem State.enterReset_backgroundRequest (s : State) (cause : ResetCause) : (s.enterReset cause).backgroundRequest = false := rfl
@[simp] theorem State.enterReset_trace (s : State) (cause : ResetCause) : (s.enterReset cause).trace = false := rfl
@[simp] theorem State.enterReset_serial (s : State) (cause : ResetCause) : (s.enterReset cause).serial = .idle := rfl
@[simp] theorem State.enterReset_reply (s : State) (cause : ResetCause) : (s.enterReset cause).reply = [] := rfl
@[simp] theorem State.enterReset_sent (s : State) (cause : ResetCause) : (s.enterReset cause).sent = s.sent := rfl
@[simp] theorem State.enterReset_stolen (s : State) (cause : ResetCause) : (s.enterReset cause).stolen = [] := rfl
@[simp] theorem State.enterReset_collision (s : State) (cause : ResetCause) : (s.enterReset cause).collision = false := rfl
@[simp] theorem State.enterReset_afterSleep (s : State) (cause : ResetCause) : (s.enterReset cause).afterSleep = false := rfl
@[simp] theorem State.enterReset_resetCause (s : State) (cause : ResetCause) : (s.enterReset cause).resetCause = cause := rfl
@[simp] theorem State.enterReset_wentWrong (s : State) (cause : ResetCause) : (s.enterReset cause).wentWrong = (s.wentWrong || cause.isWrong) := rfl
@[simp] theorem State.enterReset_bkgdLowAtResetEnd (s : State) (cause : ResetCause) : (s.enterReset cause).bkgdLowAtResetEnd = s.bkgdLowAtResetEnd := rfl
@[simp] theorem State.enterReset_stores (s : State) (cause : ResetCause) : (s.enterReset cause).stores = [] := rfl
@[simp] theorem State.enterReset_freeCount (s : State) (cause : ResetCause) : (s.enterReset cause).freeCount = s.freeCount := rfl
@[simp] theorem State.enterReset_dev (s : State) (cause : ResetCause) : (s.enterReset cause).dev = s.dev := rfl
@[simp] theorem State.enterReset_env (s : State) (cause : ResetCause) : (s.enterReset cause).env = s.env := rfl

/-! The end of a reset changes two fields. -/

@[simp] theorem State.leaveReset_a (s : State) : s.leaveReset.a = s.a := by unfold State.leaveReset; split <;> rfl
@[simp] theorem State.leaveReset_pc (s : State) : s.leaveReset.pc = s.pc := by unfold State.leaveReset; split <;> rfl
@[simp] theorem State.leaveReset_spc (s : State) : s.leaveReset.spc = s.spc := by unfold State.leaveReset; split <;> rfl
@[simp] theorem State.leaveReset_z (s : State) : s.leaveReset.z = s.z := by unfold State.leaveReset; split <;> rfl
@[simp] theorem State.leaveReset_c (s : State) : s.leaveReset.c = s.c := by unfold State.leaveReset; split <;> rfl
@[simp] theorem State.leaveReset_x (s : State) : s.leaveReset.x = s.x := by unfold State.leaveReset; split <;> rfl
@[simp] theorem State.leaveReset_pagesel (s : State) : s.leaveReset.pagesel = s.pagesel := by unfold State.leaveReset; split <;> rfl
@[simp] theorem State.leaveReset_mem (s : State) : s.leaveReset.mem = s.mem := by unfold State.leaveReset; split <;> rfl
@[simp] theorem State.leaveReset_mode (s : State) : s.leaveReset.mode = if s.bkgdLowAtResetEnd then .background else .run := by unfold State.leaveReset; split <;> rfl
@[simp] theorem State.leaveReset_bdcscr (s : State) : s.leaveReset.bdcscr = if s.bkgdLowAtResetEnd then s.dev.backgroundReset else Bdcscr.normalReset := by unfold State.leaveReset; split <;> rfl
@[simp] theorem State.leaveReset_bdcbkpt (s : State) : s.leaveReset.bdcbkpt = s.bdcbkpt := by unfold State.leaveReset; split <;> rfl
@[simp] theorem State.leaveReset_wakeRequest (s : State) : s.leaveReset.wakeRequest = s.wakeRequest := by unfold State.leaveReset; split <;> rfl
@[simp] theorem State.leaveReset_tag (s : State) : s.leaveReset.tag = s.tag := by unfold State.leaveReset; split <;> rfl
@[simp] theorem State.leaveReset_forcedRequest (s : State) : s.leaveReset.forcedRequest = s.forcedRequest := by unfold State.leaveReset; split <;> rfl
@[simp] theorem State.leaveReset_backgroundRequest (s : State) : s.leaveReset.backgroundRequest = s.backgroundRequest := by unfold State.leaveReset; split <;> rfl
@[simp] theorem State.leaveReset_trace (s : State) : s.leaveReset.trace = s.trace := by unfold State.leaveReset; split <;> rfl
@[simp] theorem State.leaveReset_serial (s : State) : s.leaveReset.serial = s.serial := by unfold State.leaveReset; split <;> rfl
@[simp] theorem State.leaveReset_reply (s : State) : s.leaveReset.reply = s.reply := by unfold State.leaveReset; split <;> rfl
@[simp] theorem State.leaveReset_sent (s : State) : s.leaveReset.sent = s.sent := by unfold State.leaveReset; split <;> rfl
@[simp] theorem State.leaveReset_stolen (s : State) : s.leaveReset.stolen = s.stolen := by unfold State.leaveReset; split <;> rfl
@[simp] theorem State.leaveReset_collision (s : State) : s.leaveReset.collision = s.collision := by unfold State.leaveReset; split <;> rfl
@[simp] theorem State.leaveReset_afterSleep (s : State) : s.leaveReset.afterSleep = s.afterSleep := by unfold State.leaveReset; split <;> rfl
@[simp] theorem State.leaveReset_resetCause (s : State) : s.leaveReset.resetCause = s.resetCause := by unfold State.leaveReset; split <;> rfl
@[simp] theorem State.leaveReset_wentWrong (s : State) : s.leaveReset.wentWrong = s.wentWrong := by unfold State.leaveReset; split <;> rfl
@[simp] theorem State.leaveReset_bkgdLowAtResetEnd (s : State) : s.leaveReset.bkgdLowAtResetEnd = s.bkgdLowAtResetEnd := by unfold State.leaveReset; split <;> rfl
@[simp] theorem State.leaveReset_stores (s : State) : s.leaveReset.stores = s.stores := by unfold State.leaveReset; split <;> rfl
@[simp] theorem State.leaveReset_freeCount (s : State) : s.leaveReset.freeCount = s.freeCount := by unfold State.leaveReset; split <;> rfl
@[simp] theorem State.leaveReset_dev (s : State) : s.leaveReset.dev = s.dev := by unfold State.leaveReset; split <;> rfl
@[simp] theorem State.leaveReset_env (s : State) : s.leaveReset.env = s.env := by unfold State.leaveReset; split <;> rfl

/-! A store changes X, PAGESEL or a byte of memory, and the record of stores. -/

@[simp] theorem State.store_a (s : State) (p : Addr) (v : Byte) : (s.store p v).a = s.a := by unfold State.store; split <;> repeat (first | rfl | split)
@[simp] theorem State.store_pc (s : State) (p : Addr) (v : Byte) : (s.store p v).pc = s.pc := by unfold State.store; split <;> repeat (first | rfl | split)
@[simp] theorem State.store_spc (s : State) (p : Addr) (v : Byte) : (s.store p v).spc = s.spc := by unfold State.store; split <;> repeat (first | rfl | split)
@[simp] theorem State.store_z (s : State) (p : Addr) (v : Byte) : (s.store p v).z = s.z := by unfold State.store; split <;> repeat (first | rfl | split)
@[simp] theorem State.store_c (s : State) (p : Addr) (v : Byte) : (s.store p v).c = s.c := by unfold State.store; split <;> repeat (first | rfl | split)
@[simp] theorem State.store_mode (s : State) (p : Addr) (v : Byte) : (s.store p v).mode = s.mode := by unfold State.store; split <;> repeat (first | rfl | split)
@[simp] theorem State.store_bdcscr (s : State) (p : Addr) (v : Byte) : (s.store p v).bdcscr = s.bdcscr := by unfold State.store; split <;> repeat (first | rfl | split)
@[simp] theorem State.store_bdcbkpt (s : State) (p : Addr) (v : Byte) : (s.store p v).bdcbkpt = s.bdcbkpt := by unfold State.store; split <;> repeat (first | rfl | split)
@[simp] theorem State.store_wakeRequest (s : State) (p : Addr) (v : Byte) : (s.store p v).wakeRequest = s.wakeRequest := by unfold State.store; split <;> repeat (first | rfl | split)
@[simp] theorem State.store_tag (s : State) (p : Addr) (v : Byte) : (s.store p v).tag = s.tag := by unfold State.store; split <;> repeat (first | rfl | split)
@[simp] theorem State.store_forcedRequest (s : State) (p : Addr) (v : Byte) : (s.store p v).forcedRequest = s.forcedRequest := by unfold State.store; split <;> repeat (first | rfl | split)
@[simp] theorem State.store_backgroundRequest (s : State) (p : Addr) (v : Byte) : (s.store p v).backgroundRequest = s.backgroundRequest := by unfold State.store; split <;> repeat (first | rfl | split)
@[simp] theorem State.store_trace (s : State) (p : Addr) (v : Byte) : (s.store p v).trace = s.trace := by unfold State.store; split <;> repeat (first | rfl | split)
@[simp] theorem State.store_serial (s : State) (p : Addr) (v : Byte) : (s.store p v).serial = s.serial := by unfold State.store; split <;> repeat (first | rfl | split)
@[simp] theorem State.store_reply (s : State) (p : Addr) (v : Byte) : (s.store p v).reply = s.reply := by unfold State.store; split <;> repeat (first | rfl | split)
@[simp] theorem State.store_sent (s : State) (p : Addr) (v : Byte) : (s.store p v).sent = s.sent := by unfold State.store; split <;> repeat (first | rfl | split)
@[simp] theorem State.store_stolen (s : State) (p : Addr) (v : Byte) : (s.store p v).stolen = s.stolen := by unfold State.store; split <;> repeat (first | rfl | split)
@[simp] theorem State.store_collision (s : State) (p : Addr) (v : Byte) : (s.store p v).collision = s.collision := by unfold State.store; split <;> repeat (first | rfl | split)
@[simp] theorem State.store_afterSleep (s : State) (p : Addr) (v : Byte) : (s.store p v).afterSleep = s.afterSleep := by unfold State.store; split <;> repeat (first | rfl | split)
@[simp] theorem State.store_resetCause (s : State) (p : Addr) (v : Byte) : (s.store p v).resetCause = s.resetCause := by unfold State.store; split <;> repeat (first | rfl | split)
@[simp] theorem State.store_wentWrong (s : State) (p : Addr) (v : Byte) : (s.store p v).wentWrong = s.wentWrong := by unfold State.store; split <;> repeat (first | rfl | split)
@[simp] theorem State.store_bkgdLowAtResetEnd (s : State) (p : Addr) (v : Byte) : (s.store p v).bkgdLowAtResetEnd = s.bkgdLowAtResetEnd := by unfold State.store; split <;> repeat (first | rfl | split)
@[simp] theorem State.store_freeCount (s : State) (p : Addr) (v : Byte) : (s.store p v).freeCount = s.freeCount := by unfold State.store; split <;> repeat (first | rfl | split)
@[simp] theorem State.store_dev (s : State) (p : Addr) (v : Byte) : (s.store p v).dev = s.dev := by unfold State.store; split <;> repeat (first | rfl | split)
@[simp] theorem State.store_env (s : State) (p : Addr) (v : Byte) : (s.store p v).env = s.env := by unfold State.store; split <;> repeat (first | rfl | split)

end Sys2Proof.Machine
end

