-- ==== Sys2Proof/Laws/Ops.lean ====
section
/-! SUPPORT. For each shared operation, once, everything it can do. -/

namespace Sys2Proof.Machine

@[simp] theorem Access.bind_ok {α β : Type} (v : α) (s : State) (f : α → State → Access β) : (Access.ok v s).bind f = f v s := rfl
@[simp] theorem Access.bind_abort {α β : Type} (cause : ResetCause) (s : State) (f : α → State → Access β) :
    (Access.abort cause s : Access α).bind f = .abort cause s := rfl
@[simp] theorem Access.finish_ok (u : Unit) (s : State) : (Access.ok u s).finish = .next s := rfl
@[simp] theorem Access.finish_abort (cause : ResetCause) (s : State) : (Access.abort cause s : Access Unit).finish = .next (takeReset cause s) := rfl

/-- A meaning that ends by `finish` always has a next state. -/
theorem Access.finish_next (x : Access Unit) : ∃ t, x.finish = .next t := by
  cases x <;> exact ⟨_, rfl⟩

/-! ## Accesses -/

theorem physRead_legal {p : Addr} {s : State} (h : s.dev.kindAt p ≠ .illegal) : physRead p s = .ok (s.peek p) (s.afterRead p) := if_neg h
theorem physRead_illegal {p : Addr} {s : State} (h : s.dev.kindAt p = .illegal) : physRead p s = .abort .illegalAddress s := if_pos h
theorem physWrite_legal {p : Addr} {v : Byte} {s : State} (h : s.dev.kindAt p ≠ .illegal) :
    physWrite p v s = .ok () ((s.touch p).store p v) := if_neg h
theorem physWrite_illegal {p : Addr} {v : Byte} {s : State} (h : s.dev.kindAt p = .illegal) : physWrite p v s = .abort .illegalAddress s := if_pos h

theorem fetch_cases (p : Addr) (s : State) :
    (s.dev.kindAt p = .illegal ∧ fetch p s = .abort .illegalAddress s) ∨
    (s.dev.kindAt p ≠ .illegal ∧ ∃ v n, fetch p s = .ok v { s.touch p with freeCount := s.freeCount + n }) := by
  unfold fetch
  by_cases h : s.dev.kindAt p = .illegal
  · exact .inl ⟨h, if_pos h⟩
  · rw [if_neg h]
    by_cases hs : s.stale p = true
    · exact .inr ⟨h, _, 1, if_pos hs⟩
    · exact .inr ⟨h, s.peek p, s.draws p, if_neg hs⟩

theorem bdcPhysRead_legal {p : Addr} {s : State} (h : s.dev.kindAt p ≠ .illegal) :
    bdcPhysRead p s = .ok (s.peek p) { s with freeCount := s.freeCount + s.draws p } := if_neg h
theorem bdcPhysRead_illegal {p : Addr} {s : State} (h : s.dev.kindAt p = .illegal) : bdcPhysRead p s = .abort .illegalAddress s := if_pos h
theorem bdcPhysWrite_legal {p : Addr} {v : Byte} {s : State} (h : s.dev.kindAt p ≠ .illegal) : bdcPhysWrite p v s = .ok () (s.store p v) := if_neg h
theorem bdcPhysWrite_illegal {p : Addr} {v : Byte} {s : State} (h : s.dev.kindAt p = .illegal) : bdcPhysWrite p v s = .abort .illegalAddress s := if_pos h

theorem bdcRead_cases (p : Addr) (s : State) :
    (s.bdcAccessFails = true ∧ bdcRead p s = .ok (Config.freeByte s.freeCount) ({ s with freeCount := s.freeCount + 1 }.accessFailed true)) ∨
    (s.bdcAccessFails = false ∧ s.dev.kindAt p = .illegal ∧ bdcRead p s = .abort .illegalAddress s) ∨
    (s.bdcAccessFails = false ∧ s.dev.kindAt p ≠ .illegal ∧
      bdcRead p s = .ok (s.peek p) ({ s with freeCount := s.freeCount + s.draws p }.accessFailed false)) := by
  unfold bdcRead
  by_cases hf : s.bdcAccessFails = true
  · exact .inl ⟨hf, if_pos hf⟩
  · rw [if_neg hf, Bool.not_eq_true] at *
    by_cases h : s.dev.kindAt p = .illegal
    · exact .inr (.inl ⟨hf, h, by rw [bdcPhysRead_illegal h]; rfl⟩)
    · exact .inr (.inr ⟨hf, h, by rw [bdcPhysRead_legal h]; rfl⟩)

theorem bdcWrite_cases (p : Addr) (v : Byte) (s : State) :
    (s.bdcAccessFails = true ∧ bdcWrite p v s = .ok () (s.accessFailed true)) ∨
    (s.bdcAccessFails = false ∧ s.dev.kindAt p = .illegal ∧ bdcWrite p v s = .abort .illegalAddress s) ∨
    (s.bdcAccessFails = false ∧ s.dev.kindAt p ≠ .illegal ∧ bdcWrite p v s = .ok () ((s.store p v).accessFailed false)) := by
  unfold bdcWrite
  by_cases hf : s.bdcAccessFails = true
  · exact .inl ⟨hf, if_pos hf⟩
  · rw [if_neg hf, Bool.not_eq_true] at *
    by_cases h : s.dev.kindAt p = .illegal
    · exact .inr (.inl ⟨hf, h, by rw [bdcPhysWrite_illegal h]; rfl⟩)
    · exact .inr (.inr ⟨hf, h, by rw [bdcPhysWrite_legal h]; rfl⟩)

/-- With no command waiting nothing happens between the read and the write. -/
@[simp] theorem stolenCycle_none {s : State} (h : s.stolen = []) : stolenCycle s = .ok () s := by
  cases s
  cases h
  rfl

/-- The first command takes its cycle, its reply is fetched, and the others follow; a reset among them ends them all. -/
theorem performAll_cons (i : Instr) (is : List Instr) (s : State) :
    (∃ t, hostCommand i s = .ok () t ∧ performAll (i :: is) s = performAll is t.delivered) ∨
    (∃ cause t, hostCommand i s = .abort cause t ∧ performAll (i :: is) s = .abort cause t) := by
  have e : performAll (i :: is) s = (hostCommand i s).bind fun _ t => performAll is t.delivered := rfl
  cases h : hostCommand i s with
  | ok v t => exact .inl ⟨t, rfl, by rw [e, h]; rfl⟩
  | abort cause t => exact .inr ⟨cause, t, rfl, by rw [e, h]; rfl⟩

/-! ## Addresses see PC, A and the flags not at all -/

@[simp] theorem State.resolve_advance (s : State) (len : Addr) (a : Byte) : (s.advance len).resolve a = s.resolve a := rfl
@[simp] theorem State.resolve_afterRead (s : State) (p : Addr) (a : Byte) : (s.afterRead p).resolve a = s.resolve a := rfl
@[simp] theorem State.peek_advance (s : State) (len p : Addr) : (s.advance len).peek p = s.peek p := rfl

/-! ## Bytes -/

/-- A byte read depends on X, PAGESEL and memory alone. -/
theorem State.byteAt_congr {s t : State} (hx : t.x = s.x) (hp : t.pagesel = s.pagesel) (hm : t.mem = s.mem) (q : Addr) : t.byteAt q = s.byteAt q := by
  simp [State.byteAt, hx, hp, hm]

/-- A store changes no byte but its own (20_memory R75). -/
theorem State.byteAt_store_other (s : State) {p q : Addr} (v : Byte) (h : p ≠ q) : (s.store p v).byteAt q = s.byteAt q := by
  have hn : p.toNat ≠ q.toNat := fun e => h (BitVec.eq_of_toNat_eq e)
  unfold State.store
  split
  · split
    · subst p
      show State.byteAt _ q = _
      simp only [State.byteAt, if_neg (Ne.symm h)]
      rfl
    · split
      · subst p
        simp only [State.byteAt, if_neg (Ne.symm h)]
        rfl
      · simp only [State.byteAt]
        split
        · rfl
        · split
          · rfl
          · exact Memory.read_write_other s.mem v hn
  · rfl

/-- A store to RAM, X or PAGESEL is what a read there gives (20_memory R75, R83). -/
theorem State.byteAt_store_same {s : State} (hm : s.mem.sorted) {p : Addr} (v : Byte) (h : s.dev.kindAt p = .ram) : (s.store p v).byteAt p = v := by
  unfold State.store
  rw [h]
  by_cases hx : p = xPhys
  · simp [State.byteAt, hx]
  · by_cases hp : p = pageselPhys
    · subst p
      rfl
    · simp [State.byteAt, hx, hp, Memory.read_write hm]

/-- A store to anything but RAM, X and PAGESEL changes nothing (20_memory R64). -/
theorem State.store_not_ram {s : State} {p : Addr} (v : Byte) (h : s.dev.kindAt p ≠ .ram) : s.store p v = s := by
  unfold State.store
  split
  · exact absurd ‹_› h
  · rfl

/-- The record of stores after a store. -/
theorem State.stores_store (s : State) (p : Addr) (v : Byte) :
    (s.store p v).stores = if s.dev.kindAt p = .ram then (p, (p - s.pc).toNat) :: s.stores else s.stores := by
  by_cases h : s.dev.kindAt p = .ram
  · rw [if_pos h]
    unfold State.store
    rw [h]
    simp only
    split
    · rfl
    · split <;> rfl
  · rw [if_neg h, State.store_not_ram v h]

/-- Memory keeps its canonical form over a store. -/
theorem State.wf_store {s : State} (h : s.mem.wf = true) (p : Addr) (v : Byte) : (s.store p v).mem.wf = true := by
  have hp : p.toNat < addressSpace := p.isLt
  unfold State.store
  split
  · split
    · exact h
    · split
      · exact h
      · exact Memory.wf_write h hp v
  · exact h

/-! ## The operand shapes -/

theorem readOperand_legal {len : Addr} {a : Byte} {f : Byte → State → State} {s : State} (h : s.dev.kindAt (s.resolve a) ≠ .illegal) :
    readOperand len a f s = .next (f (s.peek (s.resolve a)) ((s.advance len).afterRead (s.resolve a))) := by
  simp only [readOperand, memRead, State.resolve_advance]
  rw [physRead_legal (by exact h)]
  rfl

theorem readOperand_illegal {len : Addr} {a : Byte} {f : Byte → State → State} {s : State} (h : s.dev.kindAt (s.resolve a) = .illegal) :
    readOperand len a f s = .next (takeReset .illegalAddress s) := by
  simp only [readOperand, memRead, State.resolve_advance]
  rw [physRead_illegal (by exact h)]
  rfl

theorem writeOperand_legal {len : Addr} {a v : Byte} {f : State → State} {s : State} (h : s.dev.kindAt (s.resolve a) ≠ .illegal) :
    writeOperand len a v f s = .next (f (((s.advance len).touch (s.resolve a)).store (s.resolve a) v)) := by
  simp only [writeOperand, memWrite, State.resolve_advance]
  rw [physWrite_legal (by exact h)]
  rfl

theorem writeOperand_illegal {len : Addr} {a v : Byte} {f : State → State} {s : State} (h : s.dev.kindAt (s.resolve a) = .illegal) :
    writeOperand len a v f s = .next (takeReset .illegalAddress s) := by
  simp only [writeOperand, memWrite, State.resolve_advance]
  rw [physWrite_illegal (by exact h)]
  rfl

/-- A read and a write with no stolen cycle between them. -/
theorem moveOperand_legal {len : Addr} {src dst : Byte} {f : Byte → State → State} {s : State} (hs : s.stolen = [])
    (h : s.dev.kindAt (s.resolve src) ≠ .illegal) (h' : s.dev.kindAt (s.resolve dst) ≠ .illegal) :
    moveOperand len src dst f s =
      .next (f (s.peek (s.resolve src)) ((((s.advance len).afterRead (s.resolve src)).touch (s.resolve dst)).store (s.resolve dst) (s.peek (s.resolve src)))) := by
  simp only [moveOperand, memRead, State.resolve_advance]
  rw [physRead_legal (by exact h), Access.bind_ok, stolenCycle_none (by exact hs), Access.bind_ok]
  simp only [memWrite]
  rw [physWrite_legal (by exact h')]
  rfl

theorem moveOperand_illegal_source {len : Addr} {src dst : Byte} {f : Byte → State → State} {s : State}
    (h : s.dev.kindAt (s.resolve src) = .illegal) : moveOperand len src dst f s = .next (takeReset .illegalAddress s) := by
  simp only [moveOperand, memRead, State.resolve_advance]
  rw [physRead_illegal (by exact h)]
  rfl

theorem modifyOperand_legal {len : Addr} {a : Byte} {g : Byte → Byte} {f : Byte → State → State} {s : State} (hs : s.stolen = [])
    (h : s.dev.kindAt (s.resolve a) ≠ .illegal) :
    modifyOperand len a g f s =
      .next (f (g (s.peek (s.resolve a)))
        ((((s.advance len).afterRead (s.resolve a)).touch (s.resolve a)).store (s.resolve a) (g (s.peek (s.resolve a))))) := by
  simp only [modifyOperand, memRead, State.resolve_advance]
  rw [physRead_legal (by exact h), Access.bind_ok, stolenCycle_none (by exact hs), Access.bind_ok]
  simp only [memWrite]
  rw [physWrite_legal (by exact h)]
  rfl

theorem modifyOperand_illegal {len : Addr} {a : Byte} {g : Byte → Byte} {f : Byte → State → State} {s : State}
    (h : s.dev.kindAt (s.resolve a) = .illegal) : modifyOperand len a g f s = .next (takeReset .illegalAddress s) := by
  simp only [modifyOperand, memRead, State.resolve_advance]
  rw [physRead_illegal (by exact h)]
  rfl

end Sys2Proof.Machine
end

