-- ==== Sys2Proof/Laws/Cycle.lean ====
section
/-! SUPPORT. What a turn of the CPU, a boundary and a step can do: one lemma for each case. -/

namespace Sys2Proof.Machine

@[simp] theorem onNext_next (s : State) (f : State → Host.Outcome State Fault Refusal) : onNext (.next s) f = f s := rfl

/-! ## Steps -/

theorem step_empty {s : State} (h : s.env = []) : step s = cpuStep s := by
  unfold step
  rw [h]

theorem step_input {s : State} {e : Input} {rest : List Input} (h : s.env = e :: rest) : step s = event e { s with env := rest } := by
  unfold step
  rw [h]

/-! ## Turns of the CPU (60_exceptions R340) -/

theorem cpuStep_parked {s : State} (h : s.mode = .background ∨ s.mode = .reset) : cpuStep s = .next s := by
  unfold cpuStep
  rcases h with h | h <;> rw [h]

theorem cpuStep_asleep {s : State} (h : s.asleep = true) : cpuStep s = .next (if s.wakeRequest then s.wakeUp else s) := by
  unfold cpuStep
  cases hm : s.mode <;> simp_all [State.asleep]

/-- In run mode the debug logic stops the CPU before the instruction, or the instruction runs. -/
theorem cpuStep_run {s : State} (h : s.mode = .run) :
    (∃ t, s.tagOpcode.debugStop = some t ∧ cpuStep s = .next t) ∨ (s.tagOpcode.debugStop = none ∧ cpuStep s = runInstr s.tagOpcode) := by
  unfold cpuStep
  rw [h]
  cases hd : s.tagOpcode.debugStop with
  | some t => exact .inl ⟨t, rfl, rfl⟩
  | none => exact .inr ⟨rfl, rfl⟩

/-! ## Boundaries (60_exceptions R335) -/

theorem State.debugStop_stops {s : State} (h : s.tag = true ∨ s.forcedRequest = true) : s.debugStop = some s.stopForDebug := by
  unfold State.debugStop
  rcases h with h | h <;> simp [h]

theorem State.debugStop_background {s : State} (ht : s.tag = false) (hf : s.forcedRequest = false) :
    s.debugStop = if s.backgroundRequest && s.bdcscr.enbdm then some s.enterBackground else none := by
  unfold State.debugStop
  simp [ht, hf]

theorem State.debugStop_none {s : State} (ht : s.tag = false) (hf : s.forcedRequest = false) (hb : s.backgroundRequest = false) : s.debugStop = none := by
  rw [State.debugStop_background ht hf]
  simp [hb]

theorem State.settle_parked {s : State} (h : s.mode = .background ∨ s.mode = .reset) : s.settle = s := by
  unfold State.settle
  rcases h with h | h <;> rw [h]

theorem State.settle_moving {s : State} (h : s.mode = .run ∨ s.asleep = true) (ht : s.trace = false) : s.settle = s.debugStop.getD { s with backgroundRequest := false } := by
  unfold State.settle
  cases hm : s.mode <;> simp_all [State.asleep] <;> cases s.debugStop <;> rfl

/-- With nothing pending a boundary changes nothing. -/
theorem State.settle_quiet {s : State} (ht : s.tag = false) (hf : s.forcedRequest = false) (hb : s.backgroundRequest = false) (hr : s.trace = false) : s.settle = s := by
  have hd : s.debugStop = none := State.debugStop_none ht hf hb
  have he : { s with backgroundRequest := false } = s := by cases s; cases hb; rfl
  cases hm : s.mode with
  | background => exact State.settle_parked (.inl hm)
  | reset => exact State.settle_parked (.inr hm)
  | run => rw [State.settle_moving (.inl hm) hr, hd]; exact he
  | wait => rw [State.settle_moving (.inr (by simp [State.asleep, hm])) hr, hd]; exact he
  | stop => rw [State.settle_moving (.inr (by simp [State.asleep, hm])) hr, hd]; exact he

/-- After a reset a boundary changes nothing. -/
theorem State.settle_takeReset (cause : ResetCause) (s : State) : (takeReset cause s).settle = takeReset cause s :=
  State.settle_quiet (by simp [takeReset]) (by simp [takeReset]) (by simp [takeReset]) (by simp [takeReset])

/-- A fetch completes with an instruction, or an illegal address among its bytes resets the machine. -/
theorem runInstr_cases (s : State) :
    (∃ i t, fetchInstr s = .ok i t ∧ runInstr s = onNext (exec i { t with afterSleep := false }) fun u => .next u.settle) ∨
    (∃ cause t, fetchInstr s = .abort cause t ∧ runInstr s = .next (takeReset cause t)) := by
  unfold runInstr instruction
  cases h : fetchInstr s with
  | ok i t => exact .inl ⟨i, t, rfl, rfl⟩
  | abort cause t => exact .inr ⟨cause, t, rfl, congrArg Host.Outcome.next (State.settle_takeReset cause t)⟩

/-- A BACKGROUND request that finds ENBDM 0 at the boundary is dropped (log 17). -/
theorem State.settle_dropped {s : State} (hm : s.mode = .run) (ht : s.tag = false) (hf : s.forcedRequest = false) (he : s.bdcscr.enbdm = false) (hr : s.trace = false) :
    s.settle = { s with backgroundRequest := false } := by
  have hd : s.debugStop = none := by rw [State.debugStop_background ht hf]; simp [he]
  rw [State.settle_moving (.inl hm) hr, hd]
  rfl

/-! ## Commands of the host inside an instruction (20_memory R79; 47_bdc_commands R279) -/

/-- Inside an instruction a command does what its meaning does while BDMACT is 0; a block command does it to its soft-reset. -/
theorem hostCommand_exec {i : Instr} {s : State} (hc : isCommand i = true) (ha : s.bdcscr.bdmact = false) (hr : ∀ w, i ≠ .readBlock w) (hw : ∀ w v, i ≠ .writeBlock w v) :
    (hostCommand i s).finish = exec i s := by
  cases i <;> first
    | exact absurd hc Bool.false_ne_true
    | exact absurd rfl (hr _)
    | exact absurd rfl (hw _ _)
    | exact (if_neg (by simp [ha])).symm
    | rfl

/-- A source outside the core takes place in every turn. -/
@[simp] theorem State.turnReset_source (s : State) (source : ResetSource) : s.turnReset (some (.source source)) = some (.source source) := rfl
@[simp] theorem State.turnReset_none (s : State) : s.turnReset none = none := rfl
theorem State.turnReset_bdcReset (s : State) : s.turnReset (some .bdcReset) = if s.takesCommands then some .bdcReset else none := rfl

/-- In run mode the host can send a command where none is in progress. -/
theorem State.takesCommands_run {s : State} (hm : s.mode = .run) (hs : s.serial = .idle) (hr : s.reply = []) : s.takesCommands = true := by
  simp [State.takesCommands, State.listening, hm, hs, hr]

/-- In run mode a turn is the CPU's with the commands waiting, and then the reset. -/
theorem cpuTurn_run {commands : List Instr} {reset : Option TurnReset} {s : State} (h : s.mode = .run) :
    cpuTurn commands reset s =
      onNext ((if (s.turnReset reset).isSome then cpuToBoundary else cpuStep) { s with stolen := if s.takesCommands then commands else [] }) fun t =>
        .next (t.endTurn (s.turnReset reset)) := if_pos h

/-- Where the CPU runs no instruction a turn is the CPU's, or the reset's. -/
theorem cpuTurn_idle {commands : List Instr} {reset : Option TurnReset} {s : State} (h : s.mode ≠ .run) :
    cpuTurn commands reset s =
      match s.turnReset reset with
      | none => cpuStep s
      | some (.source source) => .next (s.resetFrom source)
      | some .bdcReset => .next (takeReset .bdcReset s) := if_neg h

end Sys2Proof.Machine
end

