-- ==== Sys2Proof/Laws/PerInstr.lean ====
section
/-! SUPPORT. A family of facts about each instruction as written: its bytes are as many as its first byte announces. -/

namespace Sys2Proof.Laws.EncodeLength

/-- The first byte of an instruction's encoding tells its length: for the CPU by the opcode map (30_encoding R100), for a debug command by its coding structure
(47_bdc_commands R278). SYNC has no bytes (R283). -/
def Statement (i : Instr) : Prop :=
  if isCommand i then ∀ code items, encode i = code :: items → commandItems code = some items.length
  else ∃ op rest, encode i = op :: rest ∧ opLength op = rest.length + 1

theorem brset (n : BitVec 3) (dd : Byte) (rr : Byte) : Statement (.brset n dd rr) := ⟨_, _, rfl, by show opLength _ = 3; revert n; decide⟩

theorem brclr (n : BitVec 3) (dd : Byte) (rr : Byte) : Statement (.brclr n dd rr) := ⟨_, _, rfl, by show opLength _ = 3; revert n; decide⟩

theorem bset (n : BitVec 3) (dd : Byte) : Statement (.bset n dd) := ⟨_, _, rfl, by show opLength _ = 2; revert n; decide⟩

theorem bclr (n : BitVec 3) (dd : Byte) : Statement (.bclr n dd) := ⟨_, _, rfl, by show opLength _ = 2; revert n; decide⟩

theorem incTny (a : BitVec 4) : Statement (.incTny a) := ⟨_, _, rfl, by show opLength _ = 1; revert a; decide⟩

theorem bra (rr : Byte) : Statement (.bra rr) := ⟨_, _, rfl, rfl⟩

theorem cbeqDir (dd : Byte) (rr : Byte) : Statement (.cbeqDir dd rr) := ⟨_, _, rfl, rfl⟩

theorem bcc (rr : Byte) : Statement (.bcc rr) := ⟨_, _, rfl, rfl⟩

theorem bcs (rr : Byte) : Statement (.bcs rr) := ⟨_, _, rfl, rfl⟩

theorem bne (rr : Byte) : Statement (.bne rr) := ⟨_, _, rfl, rfl⟩

theorem beq (rr : Byte) : Statement (.beq rr) := ⟨_, _, rfl, rfl⟩

theorem clc : Statement (.clc) := ⟨_, _, rfl, rfl⟩

theorem sec : Statement (.sec) := ⟨_, _, rfl, rfl⟩

theorem decDir (dd : Byte) : Statement (.decDir dd) := ⟨_, _, rfl, rfl⟩

theorem dbnzDir (dd : Byte) (rr : Byte) : Statement (.dbnzDir dd rr) := ⟨_, _, rfl, rfl⟩

theorem incDir (dd : Byte) : Statement (.incDir dd) := ⟨_, _, rfl, rfl⟩

theorem movImm (ii : Byte) (dd : Byte) : Statement (.movImm ii dd) := ⟨_, _, rfl, rfl⟩

theorem clrDir (dd : Byte) : Statement (.clrDir dd) := ⟨_, _, rfl, rfl⟩

theorem cbeqa (ii : Byte) (rr : Byte) : Statement (.cbeqa ii rr) := ⟨_, _, rfl, rfl⟩

theorem sla : Statement (.sla) := ⟨_, _, rfl, rfl⟩

theorem coma : Statement (.coma) := ⟨_, _, rfl, rfl⟩

theorem lsra : Statement (.lsra) := ⟨_, _, rfl, rfl⟩

theorem sha : Statement (.sha) := ⟨_, _, rfl, rfl⟩

theorem rora : Statement (.rora) := ⟨_, _, rfl, rfl⟩

theorem lsla : Statement (.lsla) := ⟨_, _, rfl, rfl⟩

theorem rola : Statement (.rola) := ⟨_, _, rfl, rfl⟩

theorem deca : Statement (.deca) := ⟨_, _, rfl, rfl⟩

theorem dbnza (rr : Byte) : Statement (.dbnza rr) := ⟨_, _, rfl, rfl⟩

theorem inca : Statement (.inca) := ⟨_, _, rfl, rfl⟩

theorem movDir (ss : Byte) (dd : Byte) : Statement (.movDir ss dd) := ⟨_, _, rfl, rfl⟩

theorem clra : Statement (.clra) := ⟨_, _, rfl, rfl⟩

theorem decTny (a : BitVec 4) : Statement (.decTny a) := ⟨_, _, rfl, by show opLength _ = 1; revert a; decide⟩

theorem addTny (a : BitVec 4) : Statement (.addTny a) := ⟨_, _, rfl, by show opLength _ = 1; revert a; decide⟩

theorem subTny (a : BitVec 4) : Statement (.subTny a) := ⟨_, _, rfl, by show opLength _ = 1; revert a; decide⟩

theorem clrSrt (a : BitVec 5) : Statement (.clrSrt a) := ⟨_, _, rfl, by show opLength _ = 1; revert a; decide⟩

theorem subImm (ii : Byte) : Statement (.subImm ii) := ⟨_, _, rfl, rfl⟩

theorem cmpImm (ii : Byte) : Statement (.cmpImm ii) := ⟨_, _, rfl, rfl⟩

theorem sbcImm (ii : Byte) : Statement (.sbcImm ii) := ⟨_, _, rfl, rfl⟩

theorem andImm (ii : Byte) : Statement (.andImm ii) := ⟨_, _, rfl, rfl⟩

theorem ldaImm (ii : Byte) : Statement (.ldaImm ii) := ⟨_, _, rfl, rfl⟩

theorem eorImm (ii : Byte) : Statement (.eorImm ii) := ⟨_, _, rfl, rfl⟩

theorem adcImm (ii : Byte) : Statement (.adcImm ii) := ⟨_, _, rfl, rfl⟩

theorem oraImm (ii : Byte) : Statement (.oraImm ii) := ⟨_, _, rfl, rfl⟩

theorem addImm (ii : Byte) : Statement (.addImm ii) := ⟨_, _, rfl, rfl⟩

theorem nop : Statement (.nop) := ⟨_, _, rfl, rfl⟩

theorem bsr (rr : Byte) : Statement (.bsr rr) := ⟨_, _, rfl, rfl⟩

theorem stop : Statement (.stop) := ⟨_, _, rfl, rfl⟩

theorem wait : Statement (.wait) := ⟨_, _, rfl, rfl⟩

theorem subDir (dd : Byte) : Statement (.subDir dd) := ⟨_, _, rfl, rfl⟩

theorem cmpDir (dd : Byte) : Statement (.cmpDir dd) := ⟨_, _, rfl, rfl⟩

theorem sbcDir (dd : Byte) : Statement (.sbcDir dd) := ⟨_, _, rfl, rfl⟩

theorem andDir (dd : Byte) : Statement (.andDir dd) := ⟨_, _, rfl, rfl⟩

theorem ldaDir (dd : Byte) : Statement (.ldaDir dd) := ⟨_, _, rfl, rfl⟩

theorem staDir (dd : Byte) : Statement (.staDir dd) := ⟨_, _, rfl, rfl⟩

theorem eorDir (dd : Byte) : Statement (.eorDir dd) := ⟨_, _, rfl, rfl⟩

theorem adcDir (dd : Byte) : Statement (.adcDir dd) := ⟨_, _, rfl, rfl⟩

theorem oraDir (dd : Byte) : Statement (.oraDir dd) := ⟨_, _, rfl, rfl⟩

theorem addDir (dd : Byte) : Statement (.addDir dd) := ⟨_, _, rfl, rfl⟩

theorem jmp (ea : Addr) : Statement (.jmp ea) := ⟨_, _, rfl, rfl⟩

theorem jsr (ea : Addr) : Statement (.jsr ea) := ⟨_, _, rfl, rfl⟩

theorem rts : Statement (.rts) := ⟨_, _, rfl, rfl⟩

theorem bgnd : Statement (.bgnd) := ⟨_, _, rfl, rfl⟩

theorem ldaSrt (a : BitVec 5) : Statement (.ldaSrt a) := ⟨_, _, rfl, by show opLength _ = 1; revert a; decide⟩

theorem staSrt (a : BitVec 5) : Statement (.staSrt a) := ⟨_, _, rfl, by show opLength _ = 1; revert a; decide⟩

theorem illegal32 : Statement (.illegal32) := ⟨_, _, rfl, rfl⟩

theorem illegal33 : Statement (.illegal33) := ⟨_, _, rfl, rfl⟩

theorem illegal3D : Statement (.illegal3D) := ⟨_, _, rfl, rfl⟩

theorem illegal40 : Statement (.illegal40) := ⟨_, _, rfl, rfl⟩

theorem illegal47 : Statement (.illegal47) := ⟨_, _, rfl, rfl⟩

theorem illegal4D : Statement (.illegal4D) := ⟨_, _, rfl, rfl⟩

theorem illegalA3 : Statement (.illegalA3) := ⟨_, _, rfl, rfl⟩

theorem illegalA5 : Statement (.illegalA5) := ⟨_, _, rfl, rfl⟩

theorem illegalA7 : Statement (.illegalA7) := ⟨_, _, rfl, rfl⟩

theorem illegalB3 : Statement (.illegalB3) := ⟨_, _, rfl, rfl⟩

theorem illegalB5 : Statement (.illegalB5) := ⟨_, _, rfl, rfl⟩

theorem adcIx : Statement (.adcIx) := ⟨_, _, rfl, rfl⟩

theorem adcX : Statement (.adcX) := ⟨_, _, rfl, rfl⟩

theorem sbcIx : Statement (.sbcIx) := ⟨_, _, rfl, rfl⟩

theorem sbcX : Statement (.sbcX) := ⟨_, _, rfl, rfl⟩

theorem andIx : Statement (.andIx) := ⟨_, _, rfl, rfl⟩

theorem andX : Statement (.andX) := ⟨_, _, rfl, rfl⟩

theorem oraIx : Statement (.oraIx) := ⟨_, _, rfl, rfl⟩

theorem oraX : Statement (.oraX) := ⟨_, _, rfl, rfl⟩

theorem eorIx : Statement (.eorIx) := ⟨_, _, rfl, rfl⟩

theorem eorX : Statement (.eorX) := ⟨_, _, rfl, rfl⟩

theorem cmpIx : Statement (.cmpIx) := ⟨_, _, rfl, rfl⟩

theorem cmpX : Statement (.cmpX) := ⟨_, _, rfl, rfl⟩

theorem addIx : Statement (.addIx) := ⟨_, _, rfl, rfl⟩

theorem addX : Statement (.addX) := ⟨_, _, rfl, rfl⟩

theorem subIx : Statement (.subIx) := ⟨_, _, rfl, rfl⟩

theorem subX : Statement (.subX) := ⟨_, _, rfl, rfl⟩

theorem incIx : Statement (.incIx) := ⟨_, _, rfl, rfl⟩

theorem incX : Statement (.incX) := ⟨_, _, rfl, rfl⟩

theorem decIx : Statement (.decIx) := ⟨_, _, rfl, rfl⟩

theorem decX : Statement (.decX) := ⟨_, _, rfl, rfl⟩

theorem clrIx : Statement (.clrIx) := ⟨_, _, rfl, rfl⟩

theorem clrX : Statement (.clrX) := ⟨_, _, rfl, rfl⟩

theorem asla : Statement (.asla) := ⟨_, _, rfl, rfl⟩

theorem bhs (rr : Byte) : Statement (.bhs rr) := ⟨_, _, rfl, rfl⟩

theorem blo (rr : Byte) : Statement (.blo rr) := ⟨_, _, rfl, rfl⟩

theorem brn : Statement (.brn) := ⟨_, _, rfl, rfl⟩

theorem bsetIx (n : BitVec 3) : Statement (.bsetIx n) := ⟨_, _, rfl, by show opLength _ = 2; revert n; decide⟩

theorem bsetX (n : BitVec 3) : Statement (.bsetX n) := ⟨_, _, rfl, by show opLength _ = 2; revert n; decide⟩

theorem bclrIx (n : BitVec 3) : Statement (.bclrIx n) := ⟨_, _, rfl, by show opLength _ = 2; revert n; decide⟩

theorem bclrX (n : BitVec 3) : Statement (.bclrX n) := ⟨_, _, rfl, by show opLength _ = 2; revert n; decide⟩

theorem brsetIx (n : BitVec 3) (rr : Byte) : Statement (.brsetIx n rr) := ⟨_, _, rfl, by show opLength _ = 3; revert n; decide⟩

theorem brsetX (n : BitVec 3) (rr : Byte) : Statement (.brsetX n rr) := ⟨_, _, rfl, by show opLength _ = 3; revert n; decide⟩

theorem brclrIx (n : BitVec 3) (rr : Byte) : Statement (.brclrIx n rr) := ⟨_, _, rfl, by show opLength _ = 3; revert n; decide⟩

theorem brclrX (n : BitVec 3) (rr : Byte) : Statement (.brclrX n rr) := ⟨_, _, rfl, by show opLength _ = 3; revert n; decide⟩

theorem cbeqIx (rr : Byte) : Statement (.cbeqIx rr) := ⟨_, _, rfl, rfl⟩

theorem cbeqX (rr : Byte) : Statement (.cbeqX rr) := ⟨_, _, rfl, rfl⟩

theorem dbnzIx (rr : Byte) : Statement (.dbnzIx rr) := ⟨_, _, rfl, rfl⟩

theorem dbnzX (rr : Byte) : Statement (.dbnzX rr) := ⟨_, _, rfl, rfl⟩

theorem ldaIx : Statement (.ldaIx) := ⟨_, _, rfl, rfl⟩

theorem staIx : Statement (.staIx) := ⟨_, _, rfl, rfl⟩

theorem staX : Statement (.staX) := ⟨_, _, rfl, rfl⟩

theorem tax : Statement (.tax) := ⟨_, _, rfl, rfl⟩

theorem txa : Statement (.txa) := ⟨_, _, rfl, rfl⟩

theorem ldxImm (ii : Byte) : Statement (.ldxImm ii) := ⟨_, _, rfl, rfl⟩

theorem ldxDir (dd : Byte) : Statement (.ldxDir dd) := ⟨_, _, rfl, rfl⟩

theorem ldxIx : Statement (.ldxIx) := ⟨_, _, rfl, rfl⟩

theorem stxDir (dd : Byte) : Statement (.stxDir dd) := ⟨_, _, rfl, rfl⟩

theorem movIxDir (dd : Byte) : Statement (.movIxDir dd) := ⟨_, _, rfl, rfl⟩

theorem movDirIx (ss : Byte) : Statement (.movDirIx ss) := ⟨_, _, rfl, rfl⟩

theorem movImmIx (ii : Byte) : Statement (.movImmIx ii) := ⟨_, _, rfl, rfl⟩

theorem tstDir (dd : Byte) : Statement (.tstDir dd) := ⟨_, _, rfl, rfl⟩

theorem tstIx : Statement (.tstIx) := ⟨_, _, rfl, rfl⟩

theorem tstX : Statement (.tstX) := ⟨_, _, rfl, rfl⟩

theorem tsta : Statement (.tsta) := ⟨_, _, rfl, rfl⟩

theorem bdcReset : Statement (.bdcReset) := by
  intro code items h
  cases h
  rfl

theorem background : Statement (.background) := by
  intro code items h
  cases h
  rfl

theorem readStatus : Statement (.readStatus) := by
  intro code items h
  cases h
  rfl

theorem writeControl (cc : Byte) : Statement (.writeControl cc) := by
  intro code items h
  cases h
  rfl

theorem readByte (aaaa : Word16) : Statement (.readByte aaaa) := by
  intro code items h
  cases h
  rfl

theorem readByteWs (aaaa : Word16) : Statement (.readByteWs aaaa) := by
  intro code items h
  cases h
  rfl

theorem writeByte (aaaa : Word16) (wd : Byte) : Statement (.writeByte aaaa wd) := by
  intro code items h
  cases h
  rfl

theorem writeByteWs (aaaa : Word16) (wd : Byte) : Statement (.writeByteWs aaaa wd) := by
  intro code items h
  cases h
  rfl

theorem readBkpt : Statement (.readBkpt) := by
  intro code items h
  cases h
  rfl

theorem writeBkpt (wbkp : Word16) : Statement (.writeBkpt wbkp) := by
  intro code items h
  cases h
  rfl

theorem go : Statement (.go) := by
  intro code items h
  cases h
  rfl

theorem trace1 : Statement (.trace1) := by
  intro code items h
  cases h
  rfl

theorem readBlock (aaaa : Word16) : Statement (.readBlock aaaa) := by
  intro code items h
  cases h
  rfl

theorem writeBlock (aaaa : Word16) (wd : Byte) : Statement (.writeBlock aaaa wd) := by
  intro code items h
  cases h
  rfl

theorem readA : Statement (.readA) := by
  intro code items h
  cases h
  rfl

theorem writeA (wd : Byte) : Statement (.writeA wd) := by
  intro code items h
  cases h
  rfl

theorem readCcrPc : Statement (.readCcrPc) := by
  intro code items h
  cases h
  rfl

theorem writeCcrPc (wd16 : Word16) : Statement (.writeCcrPc wd16) := by
  intro code items h
  cases h
  rfl

theorem readSpc : Statement (.readSpc) := by
  intro code items h
  cases h
  rfl

theorem writeSpc (wd16 : Word16) : Statement (.writeSpc wd16) := by
  intro code items h
  cases h
  rfl

theorem sync : Statement (.sync) := by
  intro code items h
  cases h

end Sys2Proof.Laws.EncodeLength
end

