-- ==== Sys2Proof/Machine/Assembler.lean ====
section
/-! DEFINITION. The choice of an address form by the assembler (spec 30_encoding R123, R124), and the two namings of a disassembler (R127). No step uses them:
the CPU sees the bytes alone (log 40). -/

namespace Sys2Proof.Machine

/-- The mnemonics with a tiny or a short form beside the direct one (30_encoding R105, R106), and one of those that have the direct form alone (R124). -/
inductive AddressOp where
  | add | sub | inc | dec | lda | sta | clr | sbc
deriving DecidableEq, Repr

/-- What stands before the operand: nothing, `<` or `>` (30_encoding R124). -/
inductive Forced where
  | no | shortest | direct
deriving DecidableEq, Repr

/-- The direct form. -/
def AddressOp.directForm (op : AddressOp) (dd : Byte) : Instr :=
  match op with
  | .add => .addDir dd
  | .sub => .subDir dd
  | .inc => .incDir dd
  | .dec => .decDir dd
  | .lda => .ldaDir dd
  | .sta => .staDir dd
  | .clr => .clrDir dd
  | .sbc => .sbcDir dd

/-- The tiny or short form and the number of addresses it reaches; none where there is the direct form alone. -/
def AddressOp.shortForm (op : AddressOp) (dd : Byte) : Option (Nat × Instr) :=
  match op with
  | .add => some (16, .addTny (dd.setWidth 4))
  | .sub => some (16, .subTny (dd.setWidth 4))
  | .inc => some (16, .incTny (dd.setWidth 4))
  | .dec => some (16, .decTny (dd.setWidth 4))
  | .lda => some (32, .ldaSrt (dd.setWidth 5))
  | .sta => some (32, .staSrt (dd.setWidth 5))
  | .clr => some (32, .clrSrt (dd.setWidth 5))
  | .sbc => none

/-- The form of a source line: the shortest one that reaches the address; the direct one for an address not known yet (30_encoding R123); the forced one where the mnemonic has it, of
which a tiny or short form keeps the low bits of the address alone (R124). -/
def assemble (op : AddressOp) (forced : Forced) (known : Bool) (dd : Byte) : Instr :=
  match op.shortForm dd, forced with
  | none, _ => op.directForm dd
  | some _, .direct => op.directForm dd
  | some (_, i), .shortest => i
  | some (reach, i), .no => if known && decide (dd.toNat < reach) then i else op.directForm dd

/-- The two namings of a disassembler: pseudo instructions by name, or native instructions alone (30_encoding R127). Whether D[X] is written `,X` or `D[X]` is spelling. -/
def disassemble (nativeStyle : Bool) (op b1 b2 : Byte) : Instr := if nativeStyle then decodeNative op b1 b2 else decodeOp op b1 b2

end Sys2Proof.Machine
end

