-- ==== Sys2Proof/Tests/Slice0.lean ====
section
/-! SUPPORT. The model's own tests: ill-formed terms that WellFormed refuses, a word of every constructor written out from spec/opcode_table.json, single steps
with the values of spec/95_test_vectors.md, and for each statement with hypotheses a state and operands that meet them. -/

namespace Sys2Proof.Tests

open Sys2Proof Sys2Proof.Machine

/-! ## Well-formedness: one ill-formed term for each check (log 2) -/

theorem test_ill_formed_direct :
    ([.brset 0 0x0E 0, .brclr 7 0x0F 0, .bset 0 0x0E, .bclr 7 0x0F, .cbeqDir 0x0E 0, .dbnzDir 0x0F 0, .adcDir 0x0E, .sbcDir 0x0F, .cmpDir 0x0E, .andDir 0x0F,
      .oraDir 0x0E, .eorDir 0x0F] : List Instr).map WellFormed = List.replicate 12 false := by decide

theorem test_ill_formed_tiny_and_short :
    ([.incTny 0xE, .decTny 0xF, .addTny 0xE, .subTny 0xF, .clrSrt 0x0E, .ldaSrt 0x0F, .staSrt 0x0E] : List Instr).map WellFormed = List.replicate 7 false := by decide

theorem test_ill_formed_immediate_and_branch :
    ([.bra 0, .oraImm 0, .asla, .bhs 0xFE, .blo 0xFE, .staX] : List Instr).map WellFormed = List.replicate 6 false := by decide

theorem test_ill_formed_move :
    ([.movImm 1 0x0E, .movImm 1 0x0F, .movDir 0x0E 0x20, .movDir 0x20 0x0F, .movDir 0x20 0x20, .ldxDir 0x0F, .stxDir 0x0F, .movIxDir 0x0E, .movDirIx 0x0F,
      .tstDir 0x0E] : List Instr).map WellFormed = List.replicate 10 false := by decide

/-! ## Decoding: the words of the spec's encoding tables, bit by bit -/

/-- Every listed word, with one byte of the next instruction after it, decodes to the instruction beside it. -/
def decodesTo (l : List (List Byte × Instr)) : Bool := l.all fun e => decide (decode (e.1 ++ [0x55]) = .decoded e.2 [0x55])

theorem test_words_data_movement :
    decodesTo
      [([0b00011010, 0b00100001], .bset 0x5 0x21), ([0b00011011, 0b00100001], .bclr 0x5 0x21), ([0b00111110, 0b01011010, 0b00100001], .movImm 0x5A 0x21),
       ([0b01001110, 0b00001000, 0b00100001], .movDir 0x8 0x21), ([0b10100110, 0b01011010], .ldaImm 0x5A), ([0b10110110, 0b00100001], .ldaDir 0x21),
       ([0b10110111, 0b00100001], .staDir 0x21), ([0b11011010], .ldaSrt 0x1A), ([0b11111010], .staSrt 0x1A)] = true := by decide

theorem test_words_math_1 :
    decodesTo
      [([0b00101000], .incTny 0x8), ([0b00111010, 0b00100001], .decDir 0x21), ([0b00111100, 0b00100001], .incDir 0x21),
       ([0b00111111, 0b00100001], .clrDir 0x21), ([0b01001010], .deca), ([0b01001100], .inca), ([0b01001111], .clra), ([0b01011000], .decTny 0x8),
       ([0b01101000], .addTny 0x8), ([0b01111000], .subTny 0x8), ([0b10011010], .clrSrt 0x1A), ([0b10100000, 0b01011010], .subImm 0x5A),
       ([0b10100001, 0b01011010], .cmpImm 0x5A), ([0b10100010, 0b01011010], .sbcImm 0x5A), ([0b10101001, 0b01011010], .adcImm 0x5A),
       ([0b10101011, 0b01011010], .addImm 0x5A), ([0b10110000, 0b00100001], .subDir 0x21), ([0b10110001, 0b00100001], .cmpDir 0x21)] = true := by decide

theorem test_words_math_2 :
    decodesTo
      [([0b10110010, 0b00100001], .sbcDir 0x21), ([0b10111001, 0b00100001], .adcDir 0x21), ([0b10111011, 0b00100001], .addDir 0x21)] = true := by decide

theorem test_words_logical :
    decodesTo
      [([0b01000011], .coma), ([0b10100100, 0b01011010], .andImm 0x5A), ([0b10101000, 0b01011010], .eorImm 0x5A), ([0b10101010, 0b01011010], .oraImm 0x5A),
       ([0b10110100, 0b00100001], .andDir 0x21), ([0b10111000, 0b00100001], .eorDir 0x21), ([0b10111010, 0b00100001], .oraDir 0x21)] = true := by decide

theorem test_words_shift_rotate :
    decodesTo
      [([0b01000100], .lsra), ([0b01000110], .rora), ([0b01001000], .lsla), ([0b01001001], .rola)] = true := by decide

theorem test_words_branch_loop :
    decodesTo
      [([0b00001010, 0b00100001, 0b11110110], .brset 0x5 0x21 0xF6), ([0b00001011, 0b00100001, 0b11110110], .brclr 0x5 0x21 0xF6),
       ([0b00110000, 0b11110110], .bra 0xF6), ([0b00110001, 0b00100001, 0b11110110], .cbeqDir 0x21 0xF6), ([0b00110100, 0b11110110], .bcc 0xF6),
       ([0b00110101, 0b11110110], .bcs 0xF6), ([0b00110110, 0b11110110], .bne 0xF6), ([0b00110111, 0b11110110], .beq 0xF6),
       ([0b00111011, 0b00100001, 0b11110110], .dbnzDir 0x21 0xF6), ([0b01000001, 0b01011010, 0b11110110], .cbeqa 0x5A 0xF6),
       ([0b01001011, 0b11110110], .dbnza 0xF6), ([0b10111100, 0b00010000, 0b10110101], .jmp 0x10B5)] = true := by decide

theorem test_words_subroutine :
    decodesTo
      [([0b01000010], .sla), ([0b01000101], .sha), ([0b10101101, 0b11110110], .bsr 0xF6), ([0b10111101, 0b00010000, 0b10110101], .jsr 0x10B5),
       ([0b10111110], .rts)] = true := by decide

theorem test_words_misc :
    decodesTo
      [([0b00111000], .clc), ([0b00111001], .sec), ([0b10101100], .nop), ([0b10101110], .stop), ([0b10101111], .wait), ([0b10111111], .bgnd)] = true := by decide

theorem test_words_illegal :
    decodesTo
      [([0b00110010], .illegal32), ([0b00110011], .illegal33), ([0b00111101], .illegal3D), ([0b01000000], .illegal40), ([0b01000111], .illegal47),
       ([0b01001101], .illegal4D), ([0b10100011], .illegalA3), ([0b10100101], .illegalA5), ([0b10100111], .illegalA7), ([0b10110011], .illegalB3),
       ([0b10110101], .illegalB5)] = true := by decide

theorem test_words_pseudo_1 :
    decodesTo
      [([0b10111001, 0b00001110], .adcIx), ([0b10111001, 0b00001111], .adcX), ([0b10110010, 0b00001110], .sbcIx), ([0b10110010, 0b00001111], .sbcX),
       ([0b10110100, 0b00001110], .andIx), ([0b10110100, 0b00001111], .andX), ([0b10111010, 0b00001110], .oraIx), ([0b10111010, 0b00001111], .oraX),
       ([0b10111000, 0b00001110], .eorIx), ([0b10111000, 0b00001111], .eorX), ([0b10110001, 0b00001110], .cmpIx), ([0b10110001, 0b00001111], .cmpX),
       ([0b01101110], .addIx), ([0b01101111], .addX), ([0b01111110], .subIx), ([0b01111111], .subX), ([0b00101110], .incIx), ([0b00101111], .incX)] = true := by decide

theorem test_words_pseudo_2 :
    decodesTo
      [([0b01011110], .decIx), ([0b01011111], .decX), ([0b10001110], .clrIx), ([0b10001111], .clrX), ([0b00110000, 0b00000000], .brn),
       ([0b00011010, 0b00001110], .bsetIx 0x5), ([0b00011010, 0b00001111], .bsetX 0x5), ([0b00011011, 0b00001110], .bclrIx 0x5),
       ([0b00011011, 0b00001111], .bclrX 0x5), ([0b00001010, 0b00001110, 0b11110110], .brsetIx 0x5 0xF6),
       ([0b00001010, 0b00001111, 0b11110110], .brsetX 0x5 0xF6), ([0b00001011, 0b00001110, 0b11110110], .brclrIx 0x5 0xF6),
       ([0b00001011, 0b00001111, 0b11110110], .brclrX 0x5 0xF6), ([0b00110001, 0b00001110, 0b11110110], .cbeqIx 0xF6),
       ([0b00110001, 0b00001111, 0b11110110], .cbeqX 0xF6), ([0b00111011, 0b00001110, 0b11110110], .dbnzIx 0xF6),
       ([0b00111011, 0b00001111, 0b11110110], .dbnzX 0xF6), ([0b11001110], .ldaIx)] = true := by decide

theorem test_words_pseudo_3 :
    decodesTo
      [([0b11101110], .staIx), ([0b11101111], .tax), ([0b11001111], .txa), ([0b00111110, 0b01011010, 0b00001111], .ldxImm 0x5A),
       ([0b01001110, 0b00100001, 0b00001111], .ldxDir 0x21), ([0b01001110, 0b00001110, 0b00001111], .ldxIx),
       ([0b01001110, 0b00001111, 0b00100001], .stxDir 0x21), ([0b01001110, 0b00001110, 0b00100001], .movIxDir 0x21),
       ([0b01001110, 0b00001000, 0b00001110], .movDirIx 0x8), ([0b00111110, 0b01011010, 0b00001110], .movImmIx 0x5A),
       ([0b01001110, 0b00100001, 0b00100001], .tstDir 0x21), ([0b01001110, 0b00001110, 0b00001110], .tstIx), ([0b01001110, 0b00001111, 0b00001111], .tstX),
       ([0b10101010, 0b00000000], .tsta)] = true := by decide

/-- The words that two rows of Table 2-12 or a row and a native instruction share decode to the name the model prefers, and both names have those bytes (log 2). -/
theorem test_words_shared :
    decodesTo [([0b01001000], .lsla), ([0b00110100, 0xFE], .bcc 0xFE), ([0b00110101, 0xFE], .bcs 0xFE), ([0b11101111], .tax)] = true ∧
      encode .asla = [0b01001000] ∧ encode (.bhs 0xFE) = [0b00110100, 0xFE] ∧ encode (.blo 0xFE) = [0b00110101, 0xFE] ∧ encode .staX = [0b11101111] := by decide

/-- A command code and the bytes after it, as received from the idle state, complete the command beside them. -/
def receivedAs (l : List (Byte × List Byte × Instr)) : Bool :=
  l.all fun e => decide (Serial.feed .idle (e.1 :: e.2.1) = (.idle, some e.2.2)) && decide (decodeCommand e.1 e.2.1 = some e.2.2)

/-- The codes of Table 3-2 (47_bdc_commands R278); SYNC has none. -/
theorem test_words_debug :
    receivedAs
      [(0b00011000, [], .bdcReset), (0b10010000, [], .background), (0b11100100, [], .readStatus), (0b11000100, [0xB0], .writeControl 0xB0),
       (0b11100000, [0x38, 0x12], .readByte 0x3812), (0b11100001, [0x38, 0x12], .readByteWs 0x3812), (0b11000000, [0x38, 0x12, 0xA7], .writeByte 0x3812 0xA7),
       (0b11000001, [0x38, 0x12, 0xA7], .writeByteWs 0x3812 0xA7), (0b11100010, [], .readBkpt), (0b11000010, [0xF8, 0x12], .writeBkpt 0xF812),
       (0b00001000, [], .go), (0b00010000, [], .trace1), (0b10000000, [0x38, 0x12], .readBlock 0x3812),
       (0b10001000, [0x38, 0x12, 0xA7], .writeBlock 0x3812 0xA7), (0b01101000, [], .readA), (0b01001000, [0xA7], .writeA 0xA7), (0b01101011, [], .readCcrPc),
       (0b01001011, [0x78, 0x12], .writeCcrPc 0x7812), (0b01101111, [], .readSpc), (0b01001111, [0x78, 0x12], .writeSpc 0x7812)] = true := by decide

/-- 47_bdc_commands R280. -/
theorem test_unlisted_command_code :
    (commandItems 0x00, commandItems 0x55, commandItems 0xFF) = (none, none, none) := by decide

theorem test_truncated_is_rejected_by_name :
    decode [] = .rejected .noBytes ∧ decode [0xA6] = .rejected (.truncated 0xA6) ∧ decode [0x3E, 0x5A] = .rejected (.truncated 0x3E) := by decide

/-- The first byte is the top one of a table word (log 1); the bytes the table gives no bits are zero. -/
theorem test_table_word :
    decodeTableWord 24 0xBC10B5 = some (.jmp 0x10B5) ∧ decodeTableWord 16 0xA65A = some (.ldaImm 0x5A) ∧ decodeTableWord 8 0xDA = some (.ldaSrt 0x1A) ∧
      decodeTableWord 8 0x3E = some (.movImm 0 0) := by decide

/-! ## Single steps, with the expected values of spec/95_test_vectors.md -/

/-- The step gives a next state with this property. -/
def onStep (s : State) (f : State → Bool) : Bool :=
  match step s with
  | .next t => f t
  | _ => false

/-- The instruction gives a next state with this property. -/
def onExec (i : Instr) (s : State) (f : State → Bool) : Bool :=
  match exec i s with
  | .next t => f t
  | _ => false

/-- The start state of part 2 of 95_test_vectors: the state after reset with PAGESEL 0, the given bytes at $3800 and PC there. -/
def prog (bytes : List Byte) (s : State) : State := State.placeAll bytes 0x3800 { s with pc := 0x3800, pagesel := 0 }

/-- A, Z, C and PC after the step. -/
def regs (a : Byte) (z c : Bool) (pc : Addr) (t : State) : Bool := t.a == a && t.z == z && t.c == c && t.pc == pc

/-- V2. -/
theorem test_V2_lda_imm_80 :
    onStep (prog [0xA6, 0x80] { State.reset with z := true, c := true }) (regs 0x80 false true 0x3802) = true := by decide

/-- V3. -/
theorem test_V3_lda_30 :
    onStep (prog [0xB6, 0x30] { State.reset with mem := [(0x30, 0x7F)] }) (regs 0x7F false false 0x3802) = true := by decide

/-- V4. -/
theorem test_V4_lda_08_short_form :
    onStep (prog [0xC8] { State.reset with a := 0x11 }) (regs 0x00 true false 0x3801) = true := by decide

/-- V9. -/
theorem test_V9_lda_ix_through_the_window :
    onStep { prog [0xCE] { State.reset with x := 0xC7, mem := [(0x3807, 0x99)] } with pagesel := 0xE0 } (regs 0x99 false false 0x3801) = true := by decide

/-- V11. -/
theorem test_V11_lda_ce_with_pagesel_0 :
    onStep (prog [0xB6, 0xCE] { State.reset with x := 0x30, mem := [(0xE, 0x11), (0x30, 0x22)] }) (regs 0x11 false false 0x3802) = true := by decide

/-- V13. -/
theorem test_V13_lda_ix_with_x_0f :
    onStep (prog [0xCE] { State.reset with x := 0x0F, mem := [(0xE, 0x11)] }) (regs 0x0F false false 0x3801) = true := by decide

/-- V17. -/
theorem test_V17_sta_ix :
    onStep (prog [0xEE] { State.reset with a := 0x77, x := 0x21, mem := [(0xE, 0x11)] }) (fun t => regs 0x77 false false 0x3801 t && t.byteAt 0x0021 == 0x77 && t.byteAt 0x000E == 0x11) = true := by decide

/-- V18. -/
theorem test_V18_tax :
    onStep (prog [0xEF] { State.reset with a := 0xD0, x := 0x10 }) (fun t => regs 0xD0 false false 0x3801 t && t.x == 0xD0) = true := by decide

/-- V16. -/
theorem test_V16_sta_0d_short_form :
    onStep (prog [0xED] { State.reset with a := 0x80, z := true }) (fun t => regs 0x80 false false 0x3801 t && t.byteAt 0x000D == 0x80) = true := by decide

/-- V15. -/
theorem test_V15_sta_30 :
    onStep (prog [0xB7, 0x30] { State.reset with c := true, mem := [(0x30, 0xFF)] }) (fun t => regs 0x00 true true 0x3802 t && t.byteAt 0x0030 == 0x00) = true := by decide

/-- V21. -/
theorem test_V21_sta_c0_into_flash_through_the_window :
    onStep { prog [0xB7, 0xC0] { State.reset with a := 0x12, mem := [(0x3900, 0x77)] } with pagesel := 0xE4 } (fun t => regs 0x12 false false 0x3802 t && t.byteAt 0x3900 == 0x77) = true := by decide

/-- V24. -/
theorem test_V24_lda_d0_with_pagesel_01_physical_0050_illegal :
    onStep { prog [0xB6, 0xD0] { State.reset with a := 0x77 } with pagesel := 0x01 } (fun t => regs 0x00 false false 0x3FFD t && t.resetCause == .illegalAddress && t.spc == 0x3FFD) = true := by decide

/-- V7. -/
theorem test_V7_txa :
    onStep (prog [0xCF] { State.reset with a := 0x01, x := 0x42 }) (regs 0x42 false false 0x3801) = true := by decide

/-- V29. -/
theorem test_V29_mov_imm_5a_0d :
    onStep (prog [0x3E, 0x5A, 0x0D] { State.reset with z := true, c := true }) (fun t => regs 0x00 false true 0x3803 t && t.byteAt 0x000D == 0x5A) = true := by decide

/-- V33. -/
theorem test_V33_mov_08_0d :
    onStep (prog [0x4E, 0x08, 0x0D] { State.reset with a := 0x66, mem := [(0xD, 0x33)] }) (fun t => regs 0x66 true false 0x3803 t && t.byteAt 0x000D == 0x00) = true := by decide

/-- V31. -/
theorem test_V31_ldx_imm_c7 :
    onStep (prog [0x3E, 0xC7, 0x0F] { State.reset with a := 0x55 }) (fun t => regs 0x55 false false 0x3803 t && t.x == 0xC7) = true := by decide

/-- V34. -/
theorem test_V34_ldx_30 :
    onStep (prog [0x4E, 0x30, 0x0F] { State.reset with mem := [(0x30, 0x8C)] }) (fun t => regs 0x00 false false 0x3803 t && t.x == 0x8C) = true := by decide

/-- V37. -/
theorem test_V37_ldx_ix_mov_d_x_ix :
    onStep (prog [0x4E, 0x0E, 0x0F] { State.reset with x := 0x30, mem := [(0x30, 0x21)] }) (fun t => regs 0x00 false false 0x3803 t && t.x == 0x21) = true := by decide

/-- V38. -/
theorem test_V38_stx_ix_mov_x_d_x :
    onStep (prog [0x4E, 0x0F, 0x0E] { State.reset with x := 0x30, mem := [(0x30, 0x21)] }) (fun t => regs 0x00 false false 0x3803 t && t.byteAt 0x0030 == 0x30) = true := by decide

/-- V35. -/
theorem test_V35_stx_30 :
    onStep (prog [0x4E, 0x0F, 0x30] { State.reset with x := 0x10 }) (fun t => regs 0x00 false false 0x3803 t && t.byteAt 0x0030 == 0x10) = true := by decide

/-- V39. -/
theorem test_V39_mov_ix_0e_with_x_30_mov_d_x_d_x :
    onStep (prog [0x4E, 0x0E, 0x0E] { State.reset with x := 0x30, mem := [(0xE, 0x55)] }) (fun t => regs 0x00 true false 0x3803 t && t.byteAt 0x000E == 0x55 && t.byteAt 0x0030 == 0x00) = true := by decide

/-- V41. -/
theorem test_V41_bset_7_08 :
    onStep (prog [0x1E, 0x08] { State.reset with mem := [(0x8, 0x01)] }) (fun t => regs 0x00 false false 0x3802 t && t.byteAt 0x0008 == 0x81) = true := by decide

/-- V43. -/
theorem test_V43_bclr_3_30 :
    onStep (prog [0x17, 0x30] { State.reset with mem := [(0x30, 0xFF)] }) (fun t => regs 0x00 false false 0x3802 t && t.byteAt 0x0030 == 0xF7) = true := by decide

/-- V44. -/
theorem test_V44_bclr_7_ix :
    onStep (prog [0x1F, 0x0F] { State.reset with x := 0xFF }) (fun t => regs 0x00 false false 0x3802 t && t.x == 0x7F) = true := by decide

/-- V46. -/
theorem test_V46_bset_2_d_x :
    onStep (prog [0x14, 0x0E] { State.reset with x := 0x30 }) (fun t => regs 0x00 false false 0x3802 t && t.byteAt 0x0030 == 0x04 && t.byteAt 0x000E == 0x00) = true := by decide

/-- V48. -/
theorem test_V48_bset_0_c0_on_flash_through_the_window :
    onStep { prog [0x10, 0xC0] { State.reset with mem := [(0x3900, 0x76)] } with pagesel := 0xE4 } (fun t => regs 0x00 false false 0x3802 t && t.byteAt 0x3900 == 0x76) = true := by decide

/-- V54. -/
theorem test_V54_adc_30 :
    onStep (prog [0xB9, 0x30] { State.reset with a := 0x01, c := true, mem := [(0x30, 0xFE)] }) (regs 0x00 true true 0x3802) = true := by decide

/-- V56. -/
theorem test_V56_adc_x :
    onStep (prog [0xB9, 0x0F] { State.reset with a := 0x10, x := 0x20, c := true }) (regs 0x31 false false 0x3802) = true := by decide

/-- V50. -/
theorem test_V50_adc_imm_5a :
    onStep (prog [0xA9, 0x5A] { State.reset with a := 0xC0, c := true }) (regs 0x1B false true 0x3802) = true := by decide

/-- V60. -/
theorem test_V60_add_30 :
    onStep (prog [0xBB, 0x30] { State.reset with a := 0x5A, mem := [(0x30, 0xA5)] }) (regs 0xFF false false 0x3802) = true := by decide

/-- V61. -/
theorem test_V61_add_08_tiny_form :
    onStep (prog [0x68] { State.reset with a := 0x01, mem := [(0x8, 0x02)] }) (regs 0x03 false false 0x3801) = true := by decide

/-- V62. -/
theorem test_V62_add_ix :
    onStep (prog [0x6E] { State.reset with a := 0x01, x := 0x30, mem := [(0xE, 0x07), (0x30, 0xFF)] }) (regs 0x00 true true 0x3801) = true := by decide

/-- V68. -/
theorem test_V68_sub_30 :
    onStep (prog [0xB0, 0x30] { State.reset with a := 0x10, mem := [(0x30, 0x20)] }) (regs 0xF0 false true 0x3802) = true := by decide

/-- V67. -/
theorem test_V67_sub_imm_01_from_80 :
    onStep (prog [0xA0, 0x01] { State.reset with a := 0x80 }) (regs 0x7F false false 0x3802) = true := by decide

/-- V71. -/
theorem test_V71_sub_x :
    onStep (prog [0x7F] { State.reset with a := 0x10, x := 0x11 }) (regs 0xFF false true 0x3801) = true := by decide

/-- V74. -/
theorem test_V74_sbc_imm_ff_with_c_1 :
    onStep (prog [0xA2, 0xFF] { State.reset with c := true }) (regs 0x00 true true 0x3802) = true := by decide

/-- V77. -/
theorem test_V77_sbc_x :
    onStep (prog [0xB2, 0x0F] { State.reset with a := 0x50, x := 0x50, c := true }) (regs 0xFF false true 0x3802) = true := by decide

/-- V81. -/
theorem test_V81_cmp_imm_80_with_a_7f_unsigned_compare :
    onStep (prog [0xA1, 0x80] { State.reset with a := 0x7F }) (regs 0x7F false true 0x3802) = true := by decide

/-- V83. -/
theorem test_V83_cmp_ix :
    onStep (prog [0xB1, 0x0E] { State.reset with a := 0x05, x := 0x30, mem := [(0x30, 0x06)] }) (regs 0x05 false true 0x3802) = true := by decide

/-- V78. -/
theorem test_V78_cmp_imm_5a_equal :
    onStep (prog [0xA1, 0x5A] { State.reset with a := 0x5A, c := true }) (regs 0x5A true false 0x3802) = true := by decide

/-- V85. -/
theorem test_V85_inc_30_from_ff :
    onStep (prog [0x3C, 0x30] { State.reset with c := true, mem := [(0x30, 0xFF)] }) (fun t => regs 0x00 true true 0x3802 t && t.byteAt 0x0030 == 0x00) = true := by decide

/-- V87. -/
theorem test_V87_inc_08_tiny_form :
    onStep (prog [0x28] { State.reset with z := true }) (fun t => regs 0x00 false false 0x3801 t && t.byteAt 0x0008 == 0x01) = true := by decide

/-- V88. -/
theorem test_V88_inca_from_ff :
    onStep (prog [0x4C] { State.reset with a := 0xFF }) (regs 0x00 true false 0x3801) = true := by decide

/-- V90. -/
theorem test_V90_inc_ix :
    onStep (prog [0x2E] { State.reset with x := 0x30, mem := [(0xE, 0x55), (0x30, 0x09)] }) (fun t => regs 0x00 false false 0x3801 t && t.byteAt 0x0030 == 0x0A && t.byteAt 0x000E == 0x55) = true := by decide

/-- V92. -/
theorem test_V92_dec_30_from_00 :
    onStep (prog [0x3A, 0x30] { State.reset with z := true }) (fun t => regs 0x00 false false 0x3802 t && t.byteAt 0x0030 == 0xFF) = true := by decide

/-- V94. -/
theorem test_V94_dec_01_tiny_form :
    onStep (prog [0x51] { State.reset with mem := [(0x1, 0x40)] }) (fun t => regs 0x00 false false 0x3801 t && t.byteAt 0x0001 == 0x3F) = true := by decide

/-- V95. -/
theorem test_V95_deca_from_00 :
    onStep (prog [0x4A] { State.reset with c := true }) (regs 0xFF false true 0x3801) = true := by decide

/-- V97. -/
theorem test_V97_decx :
    onStep (prog [0x5F] { State.reset with x := 0x01 }) (fun t => regs 0x00 true false 0x3801 t && t.x == 0x00) = true := by decide

/-- V98. -/
theorem test_V98_clr_30 :
    onStep (prog [0x3F, 0x30] { State.reset with c := true, mem := [(0x30, 0xAA)] }) (fun t => regs 0x00 true true 0x3802 t && t.byteAt 0x0030 == 0x00) = true := by decide

/-- V99. -/
theorem test_V99_clr_0d_short_form :
    onStep (prog [0x8D] { State.reset with mem := [(0xD, 0xAA)] }) (fun t => regs 0x00 true false 0x3801 t && t.byteAt 0x000D == 0x00) = true := by decide

/-- V100. -/
theorem test_V100_clra :
    onStep (prog [0x4F] { State.reset with a := 0xAA, c := true }) (regs 0x00 true true 0x3801) = true := by decide

/-- V102. -/
theorem test_V102_clr_ix :
    onStep (prog [0x8E] { State.reset with x := 0x30, mem := [(0xE, 0x55), (0x30, 0xAA)] }) (fun t => regs 0x00 true false 0x3801 t && t.byteAt 0x0030 == 0x00 && t.byteAt 0x000E == 0x55) = true := by decide

/-- V105. -/
theorem test_V105_tsta_with_a_80 :
    onStep (prog [0xAA, 0x00] { State.reset with a := 0x80, z := true }) (regs 0x80 false false 0x3802) = true := by decide

/-- V107. -/
theorem test_V107_tstx :
    onStep (prog [0x4E, 0x0F, 0x0F] { State.reset with x := 0x01, z := true }) (fun t => regs 0x00 false false 0x3803 t && t.x == 0x01) = true := by decide

/-- V106. -/
theorem test_V106_tst_30 :
    onStep (prog [0x4E, 0x30, 0x30] { State.reset with a := 0x44, c := true }) (fun t => regs 0x44 true true 0x3803 t && t.byteAt 0x0030 == 0x00) = true := by decide

/-- V109. -/
theorem test_V109_and_imm_5a :
    onStep (prog [0xA4, 0x5A] { State.reset with a := 0xF0, c := true }) (regs 0x50 false true 0x3802) = true := by decide

/-- V111. -/
theorem test_V111_and_30 :
    onStep (prog [0xB4, 0x30] { State.reset with a := 0xFF, mem := [(0x30, 0x81)] }) (regs 0x81 false false 0x3802) = true := by decide

/-- V113. -/
theorem test_V113_and_x :
    onStep (prog [0xB4, 0x0F] { State.reset with a := 0x3C, x := 0xC3 }) (fun t => regs 0x00 true false 0x3802 t && t.x == 0xC3) = true := by decide

/-- V114. -/
theorem test_V114_ora_imm_5a :
    onStep (prog [0xAA, 0x5A] { State.reset with a := 0xA0, c := true }) (regs 0xFA false true 0x3802) = true := by decide

/-- V116. -/
theorem test_V116_ora_30 :
    onStep (prog [0xBA, 0x30] { State.reset with a := 0x01, mem := [(0x30, 0x80)] }) (regs 0x81 false false 0x3802) = true := by decide

/-- V119. -/
theorem test_V119_eor_imm_ff :
    onStep (prog [0xA8, 0xFF] { State.reset with a := 0x5A }) (regs 0xA5 false false 0x3802) = true := by decide

/-- V121. -/
theorem test_V121_eor_ix :
    onStep (prog [0xB8, 0x0E] { State.reset with a := 0x0F, x := 0x30, mem := [(0x30, 0x0F)] }) (regs 0x00 true false 0x3802) = true := by decide

/-- V122. -/
theorem test_V122_coma :
    onStep (prog [0x43] { State.reset with a := 0x5A }) (regs 0xA5 false true 0x3801) = true := by decide

/-- V125. -/
theorem test_V125_lsla :
    onStep (prog [0x48] { State.reset with a := 0x5A, c := true }) (regs 0xB4 false false 0x3801) = true := by decide

/-- V128. -/
theorem test_V128_lsra :
    onStep (prog [0x44] { State.reset with a := 0x5A, c := true }) (regs 0x2D false false 0x3801) = true := by decide

/-- V131. -/
theorem test_V131_rola_with_c_1 :
    onStep (prog [0x49] { State.reset with a := 0x5A, c := true }) (regs 0xB5 false false 0x3801) = true := by decide

/-- V134. -/
theorem test_V134_rora_with_c_1 :
    onStep (prog [0x46] { State.reset with a := 0x5A, c := true }) (regs 0xAD false false 0x3801) = true := by decide

/-- V139. -/
theorem test_V139_jmp_with_hh_d0_bits_7_6_ignored :
    onStep (prog [0xBC, 0xD0, 0xB5] State.reset) (regs 0x00 false false 0x10B5) = true := by decide

/-- V144. -/
theorem test_V144_bra_3_at_0020_wraps_downwards :
    onStep (State.placeAll [0x30, 0xDD] 0x0020 { State.reset with pc := 0x0020, pagesel := 0 }) (regs 0x00 false false 0x3FFF) = true := by decide

/-- V145. -/
theorem test_V145_brn_bra_0 :
    onStep (prog [0x30, 0x00] { State.reset with z := true, c := true }) (regs 0x00 true true 0x3802) = true := by decide

/-- V146. -/
theorem test_V146_bcc_taken :
    onStep (prog [0x34, 0x10] State.reset) (regs 0x00 false false 0x3812) = true := by decide

/-- V148. -/
theorem test_V148_bcs_taken :
    onStep (prog [0x35, 0xF0] { State.reset with c := true }) (regs 0x00 false true 0x37F2) = true := by decide

/-- V151. -/
theorem test_V151_bne_not_taken :
    onStep (prog [0x36, 0xFB] { State.reset with z := true }) (regs 0x00 true false 0x3802) = true := by decide

/-- V152. -/
theorem test_V152_beq_taken :
    onStep (prog [0x37, 0x05] { State.reset with z := true }) (regs 0x00 true false 0x3807) = true := by decide

/-- V156. -/
theorem test_V156_brset_0_08_self_bit_set :
    onStep (prog [0x00, 0x08, 0xFD] { State.reset with mem := [(0x8, 0x01)] }) (regs 0x00 false true 0x3800) = true := by decide

/-- V160. -/
theorem test_V160_brclr_0_08_self_bit_set :
    onStep (prog [0x01, 0x08, 0xFD] { State.reset with mem := [(0x8, 0x01)] }) (regs 0x00 false true 0x3803) = true := by decide

/-- V162. -/
theorem test_V162_brset_3_ix_2 :
    onStep (prog [0x06, 0x0F, 0x02] { State.reset with x := 0x08 }) (regs 0x00 false true 0x3805) = true := by decide

/-- V161. -/
theorem test_V161_brclr_7_d_x_0 :
    onStep (prog [0x0F, 0x0E, 0x00] { State.reset with x := 0x30, mem := [(0x30, 0x80)] }) (regs 0x00 false true 0x3803) = true := by decide

/-- V165. -/
theorem test_V165_cbeq_08_self_not_equal :
    onStep (prog [0x31, 0x08, 0xFD] { State.reset with a := 0x42, z := true, mem := [(0x8, 0x43)] }) (regs 0x42 true false 0x3803) = true := by decide

/-- V166. -/
theorem test_V166_cbeq_ix_5_equal :
    onStep (prog [0x31, 0x0E, 0x05] { State.reset with x := 0x30, mem := [(0xE, 0x01)] }) (regs 0x00 false false 0x3808) = true := by decide

/-- V168. -/
theorem test_V168_cbeqa_imm_5a_self_equal :
    onStep (prog [0x41, 0x5A, 0xFD] { State.reset with a := 0x5A }) (regs 0x5A false false 0x3800) = true := by decide

/-- V170. -/
theorem test_V170_dbnz_08_self_from_02 :
    onStep (prog [0x3B, 0x08, 0xFD] { State.reset with z := true, c := true, mem := [(0x8, 0x02)] }) (fun t => regs 0x00 true true 0x3800 t && t.byteAt 0x0008 == 0x01) = true := by decide

/-- V172. -/
theorem test_V172_dbnz_08_self_from_00 :
    onStep (prog [0x3B, 0x08, 0xFD] State.reset) (fun t => regs 0x00 false false 0x3800 t && t.byteAt 0x0008 == 0xFF) = true := by decide

/-- V173. -/
theorem test_V173_dbnz_ix_self_from_01 :
    onStep (prog [0x3B, 0x0E, 0xFD] { State.reset with x := 0x30, mem := [(0xE, 0x09), (0x30, 0x01)] }) (fun t => regs 0x00 false false 0x3803 t && t.byteAt 0x0030 == 0x00 && t.byteAt 0x000E == 0x09) = true := by decide

/-- V176. -/
theorem test_V176_dbnza_self_from_02 :
    onStep (prog [0x4B, 0xFE] { State.reset with a := 0x02, z := true }) (regs 0x01 true false 0x3800) = true := by decide

/-- V178. -/
theorem test_V178_dbnza_self_from_00 :
    onStep (prog [0x4B, 0xFE] State.reset) (regs 0xFF false false 0x3800) = true := by decide

/-- V182. -/
theorem test_V182_bsr_128 :
    onStep (prog [0xAD, 0x80] State.reset) (fun t => regs 0x00 false false 0x3782 t && t.spc == 0x3802) = true := by decide

/-- V184. -/
theorem test_V184_jsr_at_3ffd_return_address_wraps :
    onStep (State.placeAll [0xBD, 0x38, 0x00] 0x3FFD { { State.reset with spc := 0x1111 } with pc := 0x3FFD, pagesel := 0 }) (fun t => regs 0x00 false false 0x3800 t && t.spc == 0x0000) = true := by decide

/-- V185. -/
theorem test_V185_rts :
    onStep (prog [0xBE] { State.reset with spc := 0x3803 }) (fun t => regs 0x00 false false 0x3803 t && t.spc == 0x3803) = true := by decide

/-- V187. -/
theorem test_V187_sha :
    onStep (prog [0x45] { State.reset with a := 0xC1, z := true, spc := 0x10AC }) (fun t => regs 0x10 true false 0x3801 t && t.spc == 0x01AC) = true := by decide

/-- V190. -/
theorem test_V190_sla :
    onStep (prog [0x42] { State.reset with a := 0x55, spc := 0x10AC }) (fun t => regs 0xAC false false 0x3801 t && t.spc == 0x1055) = true := by decide

/-- V192. -/
theorem test_V192_nop :
    onStep (prog [0xAC] { State.reset with a := 0x12, z := true, c := true }) (regs 0x12 true true 0x3801) = true := by decide

/-- V193. -/
theorem test_V193_sec :
    onStep (prog [0x39] { State.reset with z := true }) (regs 0x00 true true 0x3801) = true := by decide

/-- V195. -/
theorem test_V195_clc :
    onStep (prog [0x38] { State.reset with z := true, c := true }) (regs 0x00 true false 0x3801) = true := by decide

/-! ## Resets and modes (95_test_vectors V196 to V199, T1, T2) -/

theorem test_V196_wait :
    onStep (prog [0xAF] { State.reset with a := 0x12, z := true, c := true }) (fun t => regs 0x12 true true 0x3801 t && t.mode == .wait && t.bdcscr.ws) = true := by decide

theorem test_V197_stop : onStep (prog [0xAE] { State.reset with a := 0x12 }) (fun t => t.pc == 0x3801 && t.mode == .stop && t.bdcscr.ws) = true := by decide

theorem test_V198_bgnd_without_enbdm :
    onStep (prog [0xBF] { State.reset with a := 0x12, x := 0x34, z := true, c := true, spc := 0x1234 })
      (fun t => regs 0x00 false false 0x3FFD t && t.x == 0 && t.spc == 0x3FFD && t.pagesel == 0x08 && t.resetCause == .illegalOpcode) = true := by decide

theorem test_bgnd_with_enbdm :
    onStep (prog [0xBF] { State.reset with a := 0x12, bdcscr := { State.reset.bdcscr with enbdm := true } })
      (fun t => t.a == 0x12 && t.pc == 0x3801 && t.mode == .background && t.status == 0xC0) = true := by decide

/-- V199 to V209. -/
theorem test_illegal_opcodes :
    ([0x32, 0x33, 0x3D, 0x40, 0x47, 0x4D, 0xA3, 0xA5, 0xA7, 0xB3, 0xB5] : List Byte).all (fun op =>
      onStep (prog [op] { State.reset with a := 0x12, x := 0x34, z := true, c := true, spc := 0x1234, mem := [(0x30, 0x77)] })
        fun t => regs 0x00 false false 0x3FFD t && t.x == 0 && t.spc == 0x3FFD && t.resetCause == .illegalOpcode && t.byteAt 0x30 == 0x77) = true := by decide

/-- T1 and T2, with the RESET pin as the source. -/
def beforeReset : State :=
  { State.reset with
    a := 0x5A, x := 0xC7, pagesel := 0xE0, z := true, c := true, pc := 0x1234, spc := 0x2345, mode := .wait, bdcscr := ⟨true, false, true, true, true, false⟩
    mem := [(0x20, 0x99)], env := [.resetOn .pin] }

theorem test_T1_reset_holds :
    onStep beforeReset (fun t => regs 0x00 false false 0x3FFD t && t.mode == .reset && t.spc == 0x3FFD && t.status == 0x00 && t.byteAt 0x20 == 0x99 && t.resetCause == .pin) = true := by decide

theorem test_T1_reset_ends_in_run :
    onStep { beforeReset with mode := .reset, env := [.resetOff] } (fun t => t.mode == .run && t.status == 0x00) = true := by decide

theorem test_T2_reset_ends_in_background :
    onStep { beforeReset with mode := .reset, env := [.resetOff], bkgdLowAtResetEnd := true } (fun t => t.mode == .background && t.status == 0xC0) = true := by decide

/-- R322: the mark of a run gone wrong outlasts the resets that follow. -/
theorem test_wrong_stays :
    onStep (prog [0x32] State.reset) (fun t => t.wentWrong && !t.sound && onStep { t with env := [.resetOn .pin] } (fun u => u.wentWrong && u.resetCause == .pin) &&
      onStep { t with env := [.powerOn []] } (fun u => u.wentWrong && u.resetCause == .por)) = true := by decide

theorem test_bdc_reset_is_not_wrong : onExec .bdcReset State.reset (fun t => t.sound) = true := by decide

/-- A reset source in the turn of an illegal opcode: the mark is set, the cause on record is the source's (log 33). -/
theorem test_illegal_opcode_and_pin :
    onStep { prog [0x32] State.reset with env := [.turn [] (some (.source .pin))] } (fun t => t.mode == .reset && t.resetCause == .pin && t.wentWrong) = true := by decide

/-! ## Debug commands (95_test_vectors part 4.2) -/

/-- Active background mode, as after B3. -/
def bg : State := { State.reset with mode := .background, bdcscr := Device.standard.backgroundReset, pc := 0x3800, pagesel := 0 }

/-- Wait mode with ENBDM 1. -/
def waiting : State := { State.reset with mode := .wait, bdcscr := ⟨true, false, false, false, true, false⟩, pc := 0x3801 }

/-- Run mode with ENBDM 1. -/
def running : State := { State.reset with bdcscr := { State.reset.bdcscr with enbdm := true }, mem := [(0x30, 0x5A)] }

theorem test_B2_write_control_in_run_mode : onExec (.writeControl 0x80) State.reset (fun t => t.status == 0x80) = true := by decide
theorem test_B3_write_control_in_background : onExec (.writeControl 0x30) bg (fun t => t.status == 0xF0) = true := by decide
theorem test_B1_read_status : onExec .readStatus bg (fun t => t.reply == [0xC0]) = true := by decide
theorem test_B7_read_byte : onExec (.readByte 0xC01F) { State.reset with pagesel := 0xE0 } (fun t => t.reply == [0xE0]) = true := by decide
theorem test_B8_read_byte_ws : onExec (.readByteWs 0x0030) running (fun t => t.reply == [0x80, 0x5A]) = true := by decide
theorem test_B9_read_byte_ws_fails_in_wait : onExec (.readByteWs 0x0030) waiting (fun t => t.reply.head? == some 0x86 && t.reply.length == 2 && t.status == 0x86) = true := by decide
theorem test_B10_write_byte : onExec (.writeByte 0x001F 0x03) { State.reset with pagesel := 0 } (fun t => t.pagesel == 0x03) = true := by decide
theorem test_B11_write_byte_to_flash : onExec (.writeByte 0x3800 0x12) { State.reset with mem := [(0x3800, 0x44)] } (fun t => t.byteAt 0x3800 == 0x44) = true := by decide
theorem test_B12_write_byte_ws : onExec (.writeByteWs 0x0030 0xAA) running (fun t => t.byteAt 0x30 == 0xAA && t.reply == [0x80]) = true := by decide
theorem test_B14_write_bkpt : onExec (.writeBkpt 0xF812) State.reset (fun t => t.bdcbkpt == 0xF812 && t.breakpointAddress == 0x3812) = true := by decide
theorem test_B14_read_bkpt : onExec .readBkpt { State.reset with bdcbkpt := 0xF812 } (fun t => t.reply == [0xF8, 0x12]) = true := by decide
theorem test_B15_background_stops_at_the_boundary :
    onStep { running with env := [.byte 0x90 .boundary], pc := 0x3820 } (fun t => t.status == 0xC0 && t.mode == .background && t.pc == 0x3820) = true := by decide
theorem test_B16_background_refused : onExec .background State.reset (fun t => t == State.reset) = true := by decide
theorem test_B17_read_a : onExec .readA { bg with a := 0x5A } (fun t => t.reply == [0x5A]) = true := by decide
theorem test_B18_write_a : onExec (.writeA 0x00) { bg with a := 0x5A, z := true } (fun t => t.a == 0x00 && t.z) = true := by decide
theorem test_B19_read_ccr_pc : onExec .readCcrPc { bg with z := true, pc := 0x3812 } (fun t => t.reply == [0xB8, 0x12]) = true := by decide
theorem test_B20_write_ccr_pc : onExec (.writeCcrPc 0x7800) { bg with z := true } (fun t => !t.z && t.c && t.pc == 0x3800) = true := by decide
theorem test_B21_read_spc : onExec .readSpc bg (fun t => t.reply == [0x3F, 0xFD]) = true := by decide
theorem test_B22_write_spc : onExec (.writeSpc 0xFFFF) bg (fun t => t.spc == 0x3FFF) = true := by decide
theorem test_B24_trace_of_wait :
    onStep { bg with env := [.byte 0x10 .boundary], mem := [(0x3800, 0xAF)] } (fun t => t.mode == .background && t.pc == 0x3801 && t.status == 0xC0) = true := by decide
theorem test_B25_go : onExec .go bg (fun t => t.mode == .run && t.pc == 0x3800 && t.status == 0x80) = true := by decide
theorem test_B26_read_block : onExec (.readBlock 0x0020) { bg with mem := [(0x20, 0x71), (0x21, 0x72)] } (fun t => t.reply == [0x71] && t.serial == .readBlock 0x21) = true := by decide
theorem test_B26_read_block_goes_on :
    onStep { bg with mem := [(0x20, 0x71), (0x21, 0x72)], serial := .readBlock 0x21, env := [.byte 0 .boundary] } (fun t => t.sent == [0x72] && t.serial == .readBlock 0x22) = true := by decide
theorem test_B27_write_block_wraps :
    onExec (.writeBlock 0x3FFF 0x11) bg (fun t => t.byteAt 0x3FFF == 0 && t.serial == .writeBlock 0x0000) = true := by decide
theorem test_B27_write_block_goes_on : onStep { bg with serial := .writeBlock 0x0000, env := [.byte 0x22 .boundary] } (fun t => t.byteAt 0 == 0x22) = true := by decide
theorem test_B28_read_a_outside_background : onExec .readA State.reset (fun t => t.reply.length == 1 && { t with reply := [], freeCount := 0 } == State.reset) = true := by decide
theorem test_B29_unlisted_code : onStep { State.reset with env := [.byte 0x00 .boundary] } (fun t => t == State.reset) = true := by decide
theorem test_T4_bdc_reset : onExec .bdcReset { waiting with a := 0x5A } (fun t => t.a == 0 && t.mode == .run && t.pc == 0x3FFD && t.resetCause == .bdcReset) = true := by decide
theorem test_sync : onExec .sync { bg with serial := .receiving 0xE0 [0x00], reply := [] } (fun t => t.serial == .idle) = true := by decide

/-! ## Inside an instruction and around WAIT (20_memory R79; 47_bdc_commands R279, R282, R294; 60_exceptions R321, R335) -/

/-- INC $30 at PC, with BKPTEN and FTS 1 and BDCBKPT at $0030: a forced breakpoint is pending at its end. -/
def stopped : State :=
  { State.reset with bdcscr := ⟨true, false, true, true, false, false⟩, bdcbkpt := 0x0030, pc := 0x20, mem := [(0x20, 0x3C), (0x21, 0x30), (0x30, 0x5A)] }

theorem test_forced_breakpoint_stops : onStep stopped (fun t => t.mode == .background && t.pc == 0x22 && t.byteAt 0x30 == 0x5B) = true := by decide

/-- D10: the reset comes first, and the store has happened. -/
theorem test_cop_outranks_forced_breakpoint :
    onStep { stopped with env := [.turn [] (some (.source .cop))] } (fun t => t.mode == .reset && t.resetCause == .cop && t.pc == 0x3FFD && t.byteAt 0x30 == 0x5B && t.status == 0) = true := by decide

/-- The breakpoint with ENBDM 0 would reset the machine: the COP comes first, and the run has not gone wrong. -/
theorem test_cop_outranks_breakpoint_reset :
    onStep { stopped with bdcscr := ⟨false, false, true, true, false, false⟩, env := [.turn [] (some (.source .cop))] } (fun t => t.resetCause == .cop && !t.wentWrong && t.byteAt 0x30 == 0x5B) = true := by
  decide

/-- BDC_RESET after the store comes before that breakpoint too, and ends in run mode. -/
theorem test_bdc_reset_outranks_breakpoint_reset :
    onStep { stopped with bdcscr := ⟨false, false, true, true, false, false⟩, env := [.turn [] (some .bdcReset)] }
      (fun t => t.mode == .run && t.pc == 0x3FFD && t.resetCause == .bdcReset && !t.wentWrong && t.byteAt 0x30 == 0x5B) = true := by decide

theorem test_cop_before_the_store :
    onStep { stopped with env := [.resetOn .cop] } (fun t => t.mode == .reset && t.resetCause == .cop && t.byteAt 0x30 == 0x5A) = true := by decide

/-- The first READ_BYTE sees the old byte, the second the host's own; the INC stores the old byte plus 1. -/
theorem test_commands_inside_an_inc :
    onStep { stopped with bdcscr := ⟨true, false, false, false, false, false⟩, env := [.turn [.readByte 0x0030, .writeByte 0x0030 0x11, .readByte 0x0030] none] }
      (fun t => t.sent == [0x5A, 0x11] && t.byteAt 0x30 == 0x5B && t.pc == 0x22 && t.stolen == [] && t.reply == []) = true := by decide

theorem test_background_inside_an_inc :
    onStep { stopped with bdcscr := ⟨true, false, false, false, false, false⟩, env := [.turn [.background] none] } (fun t => t.mode == .background && t.pc == 0x22) = true := by decide

/-- Without a read and a write in the instruction the commands find no place. -/
theorem test_commands_inside_a_nop :
    onStep { State.reset with pc := 0x20, mem := [(0x20, 0xAC)], env := [.turn [.writeByte 0x0030 0x11] none] } (fun t => t.pc == 0x21 && t.byteAt 0x30 == 0 && t.stolen == []) = true := by
  decide

theorem test_trace_cut_before_the_store :
    onStep { stopped with mode := .background, bdcscr := Device.standard.backgroundReset, env := [.byte 0x10 (.cut .cop false)] }
      (fun t => t.mode == .reset && t.resetCause == .cop && t.byteAt 0x30 == 0x5A) = true := by decide

theorem test_trace_cut_after_the_store :
    onStep { stopped with mode := .background, bdcscr := Device.standard.backgroundReset, env := [.byte 0x10 (.cut .cop true)] }
      (fun t => t.mode == .reset && t.resetCause == .cop && t.byteAt 0x30 == 0x5B) = true := by decide

/-- WAIT with a wake-up request asserted goes on at once. -/
def resumed : State := { running with pc := 0x31, mem := [(0x30, 0x5A), (0x31, 0xAF), (0x32, 0xAC)], wakeRequest := true }

theorem test_wait_that_resumes : onStep resumed (fun t => t.mode == .run && t.pc == 0x32 && t.afterSleep && !t.bdcscr.ws) = true := by decide

/-- Right after it an access may fail, and after the NOP that follows no more. -/
theorem test_write_fails_after_wait :
    onStep { resumed with pc := 0x32, afterSleep := true, serial := .receiving 0xC0 [0x00, 0x30], env := [.byte 0xAA .collide] } (fun t => t.byteAt 0x30 == 0x5A && t.status == 0x82) = true := by
  decide

theorem test_nop_ends_the_window : onStep { resumed with pc := 0x32, afterSleep := true } (fun t => t.pc == 0x33 && !t.afterSleep) = true := by decide

theorem test_write_after_nop_completes :
    onStep { resumed with pc := 0x33, serial := .receiving 0xC0 [0x00, 0x30], env := [.byte 0xAA .collide] } (fun t => t.byteAt 0x30 == 0xAA && t.status == 0x80) = true := by decide

/-- Wait mode with ENBDM 0. -/
def asleepWithoutEnbdm : State := { waiting with bdcscr := ⟨false, false, false, false, true, false⟩ }

/-- A device whose debug controller has a clock in wait and none in stop while ENBDM is 0. -/
theorem test_clock_in_wait_but_not_in_stop :
    let w : State := { asleepWithoutEnbdm with dev := { Device.standard with bdcClockInStop := false } }
    w.listening = true ∧ ({ w with mode := .stop } : State).listening = false ∧ ({ w with mode := .stop, bdcscr := waiting.bdcscr } : State).listening = true := by decide

/-- R281 with BDMACT 0: nothing is written, and the bytes to the soft-reset are dropped, $18 (BDC_RESET) among them. -/
theorem test_write_block_outside_background :
    onStep { running with serial := .receiving 0x88 [0x00, 0x30], env := [.byte 0xAA .boundary] } (fun t => t.byteAt 0x30 == 0x5A && t.serial == .writeBlockRefused) = true := by decide

theorem test_write_block_outside_background_goes_on :
    onStep { running with a := 0x12, serial := .writeBlockRefused, env := [.byte 0x18 .boundary] } (fun t => t == { running with a := 0x12, serial := .writeBlockRefused }) = true := by decide

theorem test_soft_reset_ends_it : onStep { running with serial := .writeBlockRefused, env := [.softReset] } (fun t => t == running) = true := by decide

/-- The WRITE_CONTROL clears ENBDM before the boundary: the request is dropped (log 17). -/
theorem test_background_dropped :
    onStep { stopped with bdcscr := ⟨true, false, false, false, false, false⟩, env := [.turn [.background, .writeControl 0x00] none] }
      (fun t => t.mode == .run && t.pc == 0x22 && t.byteAt 0x30 == 0x5B && !t.backgroundRequest && t.status == 0x00) = true := by decide

/-- A device whose BDCSCR_RESET_BKGD_LOW has FTS 1 (log 41). -/
theorem test_background_reset_parameter :
    onStep { beforeReset with mode := .reset, env := [.resetOff], bkgdLowAtResetEnd := true, dev := { Device.standard with bdcscrResetBkgdLow := 0xD8 } }
      (fun t => t.mode == .background && t.status == 0xD0) = true := by decide

/-- Power on while the RESET pin is low (log 33). -/
theorem test_power_on_in_reset :
    onStep { beforeReset with mode := .reset, resetCause := .pin, env := [.powerOn [(0x20, 0x12)]] } (fun t => t.mode == .reset && t.resetCause == .por && t.byteAt 0x20 == 0x12) = true := by
  decide

/-! ## How a program comes to run (log 4) -/

theorem test_fetch_word_runs : onStep (State.reset.withFetchWord 16 0xA65A) (fun t => t.a == 0x5A && t.pc == 0x3FFF) = true := by decide
theorem test_fetch_word_three_bytes : onStep (State.reset.withFetchWord 24 0xBD10B5) (fun t => t.pc == 0x10B5 && t.spc == 0x0000) = true := by decide

theorem test_reset_memory_is_canonical : State.reset.mem.wf = true := by decide

/-! ## Witnesses: for each statement with hypotheses, a state and operands that meet them (the members of a list of forms are in the statement itself) -/

/-- RAM at $0000, D[X] at $4F, the last RAM byte; the window shows $3800. -/
def demo : State := { State.reset with x := 0x4F, pagesel := 0xE0, mem := [(0x20, 0x71), (0x30, 0x5A), (0x3800, 0x3C)], pc := 0x3800 }

/-- The same with X at an address that nothing implements. -/
def demoIll : State := { demo with x := 0x50 }

theorem witness_DecodeEncodeRoundTrip :
    ([.brset 0 0x0D 0x00, .brset 7 0x10 0xFF, .ldaSrt 0x00, .ldaSrt 0x1F, .incTny 0xD, .jmp 0x0000, .jmp 0x3FFF, .illegal32, .movDir 0x00 0xFF, .brn] : List Instr).all
      (fun i => isCommand i = false && WellFormed i = true) = true := by decide

theorem witness_CommandRoundTrip : isCommand (.readByte 0xFFFF) = true ∧ Instr.readByte 0xFFFF ≠ .sync ∧ isCommand .bdcReset = true ∧ Instr.bdcReset ≠ .sync := by decide

/-- An instruction of one, of two and of three bytes. -/
theorem witness_StepRunsTheDecodedInstruction :
    ([[0x48], [0xB9, 0x30], [0xBC, 0x38, 0x00]] : List (List Byte)).all (fun bytes =>
      let s := prog bytes State.reset
      decide (s.env = [] ∧ s.mode = .run ∧ s.bdcscr.bkpten = false ∧ s.tag = false ∧ s.forcedRequest = false ∧ s.backgroundRequest = false ∧ s.stores = [] ∧
        (∀ k : Nat, k < opLength (s.byteAt s.pc) → s.unstated (s.pc + BitVec.ofNat 14 k) = false ∧ s.dev.kindAt (s.pc + BitVec.ofNat 14 k) ≠ .illegal) ∧
        opLength (s.byteAt s.pc) = bytes.length) &&
      match decode [s.byteAt s.pc, s.byteAt (s.pc + 1), s.byteAt (s.pc + 2)] with
      | .decoded _ _ => true
      | .rejected _ => false) = true := by decide

/-- PC at $0050, at $004F with an instruction of two bytes and at $004E with one of three. -/
theorem witness_FetchFromIllegalAddressResets :
    let s : State := { State.reset with pc := 0x4F, mem := [(0x4F, 0xA6)] }
    let t : State := { State.reset with pc := 0x4E, mem := [(0x4E, 0x3E)] }
    (s.env = [] ∧ s.mode = .run ∧ s.bdcscr.bkpten = false ∧ s.forcedRequest = false ∧ s.backgroundRequest = false ∧ s.stores = []) ∧
      ({ s with pc := 0x50 } : State).dev.kindAt 0x50 = .illegal ∧
      (s.dev.kindAt s.pc ≠ .illegal ∧ s.unstated s.pc = false ∧ 2 ≤ opLength (s.byteAt s.pc) ∧ s.dev.kindAt (s.pc + 1) = .illegal) ∧
      (t.dev.kindAt t.pc ≠ .illegal ∧ t.unstated t.pc = false ∧ opLength (t.byteAt t.pc) = 3 ∧ t.dev.kindAt (t.pc + 1) ≠ .illegal ∧ t.unstated (t.pc + 1) = false ∧
        t.dev.kindAt (t.pc + 2) = .illegal) := by decide

theorem witness_DataAddressResolution :
    ((0xBF#8 ≠ 0x0E#8 ∧ 0xBF#8 < 0xC0#8) ∧ (0x00#8 ≠ 0x0E#8 ∧ 0x00#8 < 0xC0#8) ∧ 0xC0#8 ≤ 0xC0#8 ∧ 0xC0#8 ≤ 0xFF#8) ∧ demo.x ≠ 0x0E#8 ∧
      ({ demo with x := 0x0E } : State).x = 0x0E#8 ∧ ({ demo with x := 0x0F } : State).x = 0x0F#8 ∧ ({ demo with x := 0x1F } : State).x = 0x1F#8 ∧
      demo.pagesel = (0x3801#14).extractLsb' 6 8 := by decide

theorem witness_StoreThenRead :
    demo.mem.wf = true ∧ (demo.unstated 0x0000 = false ∧ demo.dev.kindAt 0x0000 ≠ .illegal) ∧ (demo.unstated 0x3FFF = false ∧ demo.dev.kindAt 0x3FFF ≠ .illegal) := by decide

theorem witness_StoreSeenAfterBranch : demo.mem.wf = true ∧ demo.dev.kindAt 0x004F = .ram ∧ demo.dev.kindAt 0x000F = .ram ∧ demo.stores = [] := by decide

/-- A legal and an illegal address for a direct, a short and an indexed operand. -/
theorem witness_StoreToMemory :
    demo.mem.wf = true ∧ demo.legal 0x0E ∧ demo.legal 0xFF ∧ demo.legal 0x1F ∧ demo.legal 0x0F ∧ ¬ demo.legal 0x50 ∧ ¬ demo.legal 0x10 ∧ demoIll.mem.wf = true ∧ ¬ demoIll.legal 0x0E := by
  unfold State.legal
  decide

theorem witness_MoveMemoryToMemory :
    demo.mem.wf = true ∧ demo.stolen = [] ∧ (demo.legal 0x20 ∧ demo.legal 0x30) ∧ (demo.legal 0x20 ∧ ¬ demo.legal 0x10) ∧ ¬ demo.legal 0x50 := by
  unfold State.legal
  decide

theorem witness_SetAndClearBitInMemory : demo.mem.wf = true ∧ demo.stolen = [] ∧ demo.legal 0x00 ∧ demo.legal 0xFF ∧ ¬ demo.legal 0x10 ∧ demoIll.stolen = [] ∧ ¬ demoIll.legal 0x0E := by
  unfold State.legal
  decide

theorem witness_IncrementAndDecrementMemory :
    demo.mem.wf = true ∧ demo.stolen = [] ∧ demo.legal 0x0D ∧ demo.legal 0x00 ∧ demo.legal 0x0E ∧ ¬ demo.legal 0x50 ∧ ¬ demoIll.legal 0x0E := by
  unfold State.legal
  decide

/-- A byte of RAM read, written and read again with the status, X through operand $0F, which a host's write to it does not move, and a source in flash. -/
theorem witness_StolenCycleFallsBetweenReadAndWrite :
    let l : List HostAccess := [⟨0x0030, none, false⟩, ⟨0x0030, some 0x99, false⟩, ⟨0x0030, none, true⟩, ⟨0x3FFF, some 0x01, true⟩]
    let m : List HostAccess := [⟨0x000F, some 0x99, false⟩]
    let s : State := { demo with stolen := [.readByte 0x0030, .writeByte 0x0030 0x99, .readByteWs 0x0030, .writeByteWs 0x3FFF 0x01] }
    let u : State := { demo with stolen := [.writeByte 0x000F 0x99] }
    (s.mem.wf = true ∧ s.mode = .run ∧ s.collision = false ∧ s.reply = [] ∧ s.stolen = l.map HostAccess.command ∧ ∀ h ∈ l, s.dev.kindAt h.address ≠ .illegal) ∧
      (s.legal 0x30 ∧ s.legal 0x20 ∧ s.legal 0xC0 ∧ (State.hostAccesses l (s.afterOperand 0x30)).1.resolve 0x30 = s.resolve 0x30 ∧
        (State.hostAccesses l (s.afterOperand 0xC0)).1.resolve 0x20 = s.resolve 0x20) ∧
      (u.stolen = m.map HostAccess.command ∧ u.legal 0x0F ∧ (State.hostAccesses m (u.afterOperand 0x0F)).1.resolve 0x0F = u.resolve 0x0F) := by
  unfold State.legal
  decide

/-- For ADD, ADC, SUB, SBC, CMP, LDA, AND, ORA, EOR, BRSET, BRCLR and CBEQ with an operand in memory. -/
theorem witness_operand_legal_and_illegal :
    demo.legal 0x00 ∧ demo.legal 0x0D ∧ demo.legal 0x0E ∧ demo.legal 0x0F ∧ demo.legal 0x1F ∧ demo.legal 0xC0 ∧ ¬ demo.legal 0x10 ∧ ¬ demo.legal 0xBF ∧ ¬ demoIll.legal 0x0E := by
  unfold State.legal
  decide

theorem witness_AddFromMemory : demo.legal 0x30 ∧ ¬ demo.legal 0x50 := ⟨by unfold State.legal; decide, by unfold State.legal; decide⟩
theorem witness_SubtractFromMemory : demo.legal 0x0E ∧ ¬ demoIll.legal 0x0E := ⟨by unfold State.legal; decide, by unfold State.legal; decide⟩
theorem witness_CompareWithMemory : demo.legal 0xFF ∧ ¬ demo.legal 0xBF := ⟨by unfold State.legal; decide, by unfold State.legal; decide⟩
theorem witness_LoadAndLogicFromMemory : demo.legal 0x1F ∧ ¬ demo.legal 0x10 := ⟨by unfold State.legal; decide, by unfold State.legal; decide⟩
theorem witness_BranchOnBit : demo.legal 0x00 ∧ ¬ demo.legal 0x50 := ⟨by unfold State.legal; decide, by unfold State.legal; decide⟩
theorem witness_CompareAndBranch : demo.legal 0x4F ∧ ¬ demo.legal 0x50 := ⟨by unfold State.legal; decide, by unfold State.legal; decide⟩

theorem witness_DecrementAndBranch : demo.mem.wf = true ∧ demo.stolen = [] ∧ demo.legal 0x30 ∧ ¬ demo.legal 0x50 := by
  unfold State.legal
  decide

theorem witness_BackgroundInstruction : running.bdcscr.enbdm = true ∧ State.reset.bdcscr.enbdm = false := by decide

theorem witness_WakeUpResumes :
    (waiting.asleep = true ∧ waiting.env = [] ∧ waiting.wakeRequest = false) ∧ ({ waiting with mode := .stop, wakeRequest := true } : State).asleep = true ∧
      ({ waiting with env := [.wake true, .cpu] } : State).env = .wake true :: [.cpu] ∧ (running.mode = .run ∧ bg.mode = .background) ∧
      ({ running with env := [.wake true] } : State).env = .wake true :: [] := by decide

theorem witness_ResetSequence :
    let s : State := { State.reset with bkgdLowAtResetEnd := true }
    State.reset.bkgdLowAtResetEnd = false ∧ s.bkgdLowAtResetEnd = true ∧ s.dev.bdcscrResetBkgdLow = 0xC0#8 := by decide

theorem witness_ResetInputs :
    let s : State := { running with env := [.resetOn .cop] }
    let h : State := { running with mode := .reset }
    (s.env = .resetOn .cop :: [] ∧ s.mode ≠ .reset ∧ s.bdcscr.bdmact = false) ∧ (({ bg with env := [.resetOn .cop] } : State).env = .resetOn .cop :: [] ∧ bg.bdcscr.bdmact = true) ∧
      (({ h with env := [.resetOn .pin] } : State).env = .resetOn .pin :: [] ∧ h.mode = .reset) ∧ ({ h with env := [.cpu] } : State).env = .cpu :: [] ∧
      ({ h with env := [.resetOff] } : State).env = .resetOff :: [] := by decide

theorem witness_PowerOnGivesAnyRam : demo.mem.wf = true ∧ ∃ t, step { demo with env := [.powerOn [(0x4F, 0x99)]] } = .next t := ⟨by decide, _, rfl⟩

theorem witness_TaggedBreakpoint :
    let s : State := { running with bdcscr := ⟨true, false, true, false, false, false⟩, bdcbkpt := 0xFFFD }
    let t : State := { s with bdcscr := ⟨false, false, true, false, false, false⟩ }
    (s.env = [] ∧ s.mode = .run ∧ s.bdcscr.bkpten = true ∧ s.bdcscr.fts = false) ∧ (s.pc = s.bdcbkpt.extractLsb' 0 14 ∧ s.bdcscr.enbdm = true) ∧
      (t.pc = t.bdcbkpt.extractLsb' 0 14 ∧ t.bdcscr.enbdm = false) ∧
      (({ s with pc := 0x3FFC } : State).pc ≠ s.bdcbkpt.extractLsb' 0 14 ∧ s.tag = false ∧ s.forcedRequest = false ∧ s.backgroundRequest = false) := by decide

/-- An access that hits and one beside it; an access of the debug controller; a pending request at a boundary. -/
theorem witness_ForcedBreakpoint :
    let s : State := { running with bdcscr := ⟨true, false, true, true, false, false⟩, bdcbkpt := 0x0030 }
    (∃ w t, physRead 0x30 s = .ok w t ∧ t.forcedRequest = true) ∧ (∃ w t, physRead 0x2F s = .ok w t ∧ t.forcedRequest = false) ∧ (∃ t, physWrite 0x30 0x01 s = .ok () t) ∧
      (∃ w t, fetch 0x30 s = .ok w t) ∧ (∃ w t, bdcPhysRead 0x30 s = .ok w t) ∧ (∃ t, bdcPhysWrite 0x30 0x01 s = .ok () t) ∧
      ({ s with forcedRequest := true } : State).mode = .run ∧ ({ s with forcedRequest := true } : State).trace = false :=
  ⟨⟨_, _, rfl, rfl⟩, ⟨_, _, rfl, rfl⟩, ⟨_, rfl⟩, ⟨_, _, rfl⟩, ⟨_, _, rfl⟩, ⟨_, rfl⟩, rfl, rfl⟩

theorem witness_CpuRegisterCommands : bg.bdcscr.bdmact = true := by decide
theorem witness_BackgroundCommandsOutsideBackground :
    let r : State := { running with serial := .readBlockRefused }
    let w : State := { running with serial := .writeBlockRefused }
    running.bdcscr.bdmact = false ∧ waiting.bdcscr.bdmact = false ∧ (r.reply = [] ∧ r.serial = .readBlockRefused ∧ r.listening = true) ∧
      (w.reply = [] ∧ w.serial = .writeBlockRefused ∧ w.listening = true) := by decide

theorem bg_inv : bg.Inv := ⟨by decide, by decide, by decide, by decide, by decide, by decide, rfl, rfl, rfl, rfl, rfl⟩

/-- A TRACE1 of the opcode $48 at $3800. -/
def traced : State := { bg with env := [.byte 0x10 .boundary], mem := [(0x3800, 0x48)] }

theorem witness_GoAndTrace :
    bg.bdcscr.bdmact = true ∧ traced.Inv ∧ traced.mode = .background ∧ traced.serial = .idle ∧ traced.reply = [] ∧ traced.bdcscr.bkpten = false ∧
      traced.env = .byte 0x10 .boundary :: [] ∧ (∀ source stored, Timing.boundary ≠ .cut source stored) ∧
      ∃ u t, u = { traced.leaveBackground with env := [], tag := false, trace := true } ∧ fetchInstr u = .ok .lsla u ∧ exec .lsla u = .next t ∧ t.mode = .run ∧ t.trace = true ∧
        t.tag = false ∧ t.forcedRequest = false ∧ t.backgroundRequest = false :=
  ⟨rfl, ⟨by decide, by decide, by decide, by decide, by decide, by decide, rfl, rfl, rfl, rfl, rfl⟩, rfl, rfl, rfl, rfl, rfl, nofun, _, _, rfl, rfl, rfl, rfl, rfl, rfl, rfl, rfl⟩

/-- Right before a WAIT at PC, right after a WAIT or STOP, and beside neither, each with a collision declared. -/
def beforeWait : State := { running with collision := true, pc := 0x31, mem := [(0x30, 0x5A), (0x31, 0xAF)] }
def afterStop : State := { running with collision := true, afterSleep := true, pc := 0x30 }
def besideNone : State := { running with collision := true, pc := 0x30 }

theorem witness_MemoryReadCommands :
    (running.asleep = false ∧ running.collision = false) ∧ (bg.asleep = false ∧ bg.mode ≠ .run) ∧
      (besideNone.asleep = false ∧ besideNone.collision = true ∧ besideNone.afterSleep = false ∧ besideNone.stores = [] ∧ besideNone.unstated besideNone.pc = false ∧
        besideNone.byteAt besideNone.pc ≠ 0xAF#8 ∧ besideNone.byteAt besideNone.pc ≠ 0xAE#8) ∧
      running.dev.kindAt ((0xFFFF#16).extractLsb' 0 14) ≠ .illegal ∧ running.dev.kindAt ((0x0050#16).extractLsb' 0 14) = .illegal ∧
      (waiting.asleep = true ∧ ({ waiting with mode := .stop } : State).asleep = true) ∧
      (beforeWait.collision = true ∧ beforeWait.mode = .run ∧ beforeWait.byteAt beforeWait.pc = 0xAF#8) ∧
      (afterStop.collision = true ∧ afterStop.mode = .run ∧ afterStop.afterSleep = true) := by decide

theorem witness_MemoryWriteCommands :
    running.mem.wf = true ∧ (running.asleep = false ∧ running.collision = false) ∧ (besideNone.mem.wf = true ∧ besideNone.asleep = false ∧ besideNone.afterSleep = false) ∧
      running.dev.kindAt ((0x4000#16).extractLsb' 0 14) ≠ .illegal ∧ running.dev.kindAt ((0x37FF#16).extractLsb' 0 14) = .illegal ∧
      (waiting.mem.wf = true ∧ waiting.asleep = true) ∧ (beforeWait.mem.wf = true ∧ beforeWait.collision = true ∧ beforeWait.mode = .run ∧ beforeWait.byteAt beforeWait.pc = 0xAF#8) ∧
      (afterStop.mem.wf = true ∧ afterStop.collision = true ∧ afterStop.afterSleep = true) := by decide

theorem witness_BlockCommands :
    let s : State := { bg with serial := .readBlock 0x3FFF }
    let t : State := { bg with serial := .writeBlock 0x0000 }
    let u : State := { bg with serial := .readBlock 0x0050 }
    let v : State := { bg with serial := .writeBlock 0x37FF }
    bg.mem.wf = true ∧ bg.bdcscr.bdmact = true ∧ bg.dev.kindAt ((0x3FFF#16).extractLsb' 0 14) ≠ .illegal ∧ bg.dev.kindAt ((0x0010#16).extractLsb' 0 14) = .illegal ∧
      (s.reply = [] ∧ s.serial = .readBlock 0x3FFF ∧ s.dev.kindAt 0x3FFF ≠ .illegal) ∧ (t.reply = [] ∧ t.serial = .writeBlock 0x0000 ∧ t.dev.kindAt 0x0000 ≠ .illegal) ∧
      (u.reply = [] ∧ u.serial = .readBlock 0x0050 ∧ u.dev.kindAt 0x0050 = .illegal) ∧ (v.reply = [] ∧ v.serial = .writeBlock 0x37FF ∧ v.dev.kindAt 0x37FF = .illegal) := by decide

theorem witness_BackgroundCommand :
    State.reset.bdcscr.enbdm = false ∧ bg.bdcscr.bdmact = true ∧ (waiting.bdcscr.enbdm = true ∧ waiting.bdcscr.bdmact = false ∧ waiting.asleep = true) ∧
      (running.bdcscr.enbdm = true ∧ running.bdcscr.bdmact = false ∧ running.asleep = false) ∧
      (running.mode = .run ∧ running.tag = false ∧ running.forcedRequest = false ∧ running.trace = false ∧ running.bdcscr.enbdm = true) ∧
      (demo.mode = .run ∧ demo.tag = false ∧ demo.forcedRequest = false ∧ demo.trace = false ∧ demo.bdcscr.enbdm = false) := by decide

/-- A code with no item at each timing, the last item of a command, a first item, an unlisted code, a waiting reply, and a state that does not listen. -/
theorem witness_CommandBytesReachExec :
    let s (tm : Timing) : State := { running with env := [.byte 0xE4 tm] }
    let l : State := { running with serial := .receiving 0xE0 [0x00], env := [.byte 0x30 .collide] }
    let r : State := { running with reply := [0x11, 0x22], env := [.byte 0xE4 .boundary] }
    let d : State := { running with mode := .reset, env := [.byte 0xE4 .boundary] }
    ([.boundary, .collide, .cut .cop true, .cut .pin false] : List Timing).all (fun tm =>
        decide ((s tm).env = .byte 0xE4 tm :: [] ∧ (s tm).listening = true ∧ (s tm).reply = [] ∧ (s tm).serial.noBlock = true ∧
          ((s tm).serial.receive 0xE4).2 = some .readStatus ∧ Instr.readStatus ≠ .trace1 ∧ (s tm).trace = false ∧ (s tm).collision = false)) = true ∧
      (l.env = .byte 0x30 .collide :: [] ∧ l.listening = true ∧ l.reply = [] ∧ l.serial.noBlock = true ∧ (l.serial.receive 0x30).2 = some (.readByte 0x0030)) ∧
      (running.serial.receive 0xE0).2 = none ∧ (running.serial = .idle ∧ commandItems 0x00 = none) ∧ (r.listening = true ∧ r.reply = 0x11 :: [0x22]) ∧
      (d.listening = false ∧ d.mode = .reset) ∧ (waiting.mode ≠ .reset ∧ waiting.bdcscr.enbdm = true) ∧
      (asleepWithoutEnbdm.bdcscr.enbdm = false ∧ asleepWithoutEnbdm.mode = .wait ∧ ({ asleepWithoutEnbdm with mode := .stop } : State).mode = .stop) := by decide

theorem witness_StepKeepsInvariant : State.reset.Inv ∧ (∃ t, step State.reset = .next t) ∧ bg.Inv ∧ ∃ t, step { bg with env := [.byte 0x10 .boundary] } = .next t :=
  ⟨⟨by decide, by decide, by decide, by decide, by decide, by decide, rfl, rfl, rfl, rfl, rfl⟩, ⟨_, rfl⟩, bg_inv, _, rfl⟩

theorem witness_ResetMeetsInvariant : demo.mem.wf = true := by decide

theorem witness_FlashNeverChanges : State.reset.Inv ∧ (∃ t, step State.reset = .next t) ∧ State.reset.dev.kindAt 0x3800 = .flash ∧ State.reset.dev.kindAt 0x3FFF = .flash :=
  ⟨⟨by decide, by decide, by decide, by decide, by decide, by decide, rfl, rfl, rfl, rfl, rfl⟩, ⟨_, rfl⟩, by decide, by decide⟩

/-- A run that goes wrong in this step, and one that has gone wrong before. -/
theorem witness_EveryStepGivesANextState :
    let s : State := { State.reset with pc := 0x20, mem := [(0x20, 0x32)] }
    (s.env = [] ∧ s.wentWrong = false ∧ ∃ t, step s = .next t ∧ t.wentWrong = true) ∧ ({ s with wentWrong := true } : State).wentWrong = true :=
  ⟨⟨rfl, rfl, _, rfl, rfl⟩, rfl⟩

theorem witness_ProgramsDoNotReachDebugRegisters :
    isCommand (.staDir 0x30) = false ∧ demo.stolen = [] ∧ (∃ t, exec (.staDir 0x30) demo = .next t) ∧ isCommand .bgnd = false ∧ ∃ t, exec .bgnd running = .next t :=
  ⟨rfl, rfl, ⟨_, rfl⟩, rfl, _, rfl⟩

theorem witness_InstructionsThatKeepRegisters :
    isCommand (.incDir 0x30) = false ∧ demo.stolen = [] ∧ (∃ t, exec (.incDir 0x30) demo = .next t) ∧ isCommand .illegal32 = false ∧ ∃ t, exec .illegal32 demo = .next t :=
  ⟨rfl, rfl, ⟨_, rfl⟩, rfl, _, rfl⟩

/-- A WAIT and a BGND. -/
theorem witness_RunModeStopsOnlyByThese :
    let s : State := { demo with mem := [(0x3800, 0xAF)] }
    let b : State := { running with pc := 0x30, mem := [(0x30, 0xBF)] }
    (s.env = [] ∧ s.mode = .run ∧ s.stolen = [] ∧ ∃ t, step s = .next t ∧ t.asleep = true) ∧
      (b.env = [] ∧ b.mode = .run ∧ b.stolen = [] ∧ ∃ t, step b = .next t ∧ t.mode = .background) :=
  ⟨⟨rfl, rfl, rfl, _, rfl, rfl⟩, ⟨rfl, rfl, rfl, _, rfl, rfl⟩⟩

/-- An INC that a forced breakpoint stops, with the COP in its turn; a turn in wait mode; a TRACE1 of that INC that the COP aborts. -/
theorem witness_ResetAndCommandsInsideAnInstruction :
    let s : State := { stopped with env := [.turn [.readByte 0x0030] (some (.source .cop))] }
    let n : State := { stopped with env := [.turn [.readByte 0x0030, .writeByte 0x0030 0x11] none] }
    let b : State := { stopped with env := [.turn [] (some .bdcReset)] }
    let v : State := { waiting with env := [.turn [] (some .bdcReset)] }
    let w : State := { waiting with env := [.turn [] (some (.source .pin))] }
    let t : State := { bg with env := [.byte 0x10 (.cut .cop true)] }
    (s.mode = .run ∧ s.serial = .idle ∧ s.reply = [] ∧ s.env = .turn [.readByte 0x0030] (some (.source .cop)) :: [] ∧
        ∃ u, cpuStep { s with env := [], stolen := [.readByte 0x0030] } = .next u ∧ u.mode = .background) ∧
      (n.env = .turn [.readByte 0x0030, .writeByte 0x0030 0x11] none :: [] ∧ ∃ u, cpuStep { n with env := [], stolen := [.readByte 0x0030, .writeByte 0x0030 0x11] } = .next u) ∧
      (b.mode = .run ∧ b.env = .turn [] (some .bdcReset) :: [] ∧ ∃ u, cpuStep { b with env := [], stolen := [] } = .next u) ∧
      (w.mode ≠ .run ∧ w.env = .turn [] (some (.source .pin)) :: []) ∧
      (v.mode ≠ .run ∧ v.listening = true ∧ v.serial = .idle ∧ v.reply = [] ∧ v.env = .turn [] (some .bdcReset) :: []) ∧
      (t.mode = .background ∧ t.bdcscr.bdmact = true ∧ t.serial = .idle ∧ t.reply = [] ∧ t.env = .byte 0x10 (.cut .cop true) :: [] ∧
        ∃ u, step { t with env := [.byte 0x10 .boundary] } = .next u) :=
  ⟨⟨rfl, rfl, rfl, rfl, _, rfl, rfl⟩, ⟨rfl, _, rfl⟩, ⟨rfl, rfl, _, rfl⟩, ⟨by decide, rfl⟩, ⟨by decide, rfl, rfl, rfl, rfl⟩, rfl, rfl, rfl, rfl, rfl, _, rfl⟩

theorem witness_CycleCounts : 0x00#8 ∉ illegalOpcodes ∧ 0xBF#8 ∉ illegalOpcodes ∧ 0xFF#8 ∉ illegalOpcodes := by decide

/-! ## Cycles (70_reset_and_hazards R391) -/

theorem test_cycles :
    [Instr.ldaImm 1, .ldaDir 1, .ldaSrt 1, .staDir 1, .staSrt 1, .movImm 1 2, .movDir 1 2, .bset 0 1, .jmp 1, .rts, .brset 0 1 1, .dbnzDir 1 1, .nop, .wait, .bgnd].map cycles =
      [2, 3, 3, 3, 2, 4, 5, 5, 4, 3, 5, 7, 1, 2, 6] := by decide

/-! ## The assembler's choice of a form (95_test_vectors 1.7) -/

theorem test_assembler_forms :
    [encode (assemble .lda .no true 0x1F), encode (assemble .lda .no false 0x00), encode (assemble .dec .no true 0x0E), encode (assemble .inc .no true 0x10),
      encode (assemble .lda .shortest true 0xFF), encode (assemble .dec .shortest true 0x13), encode (assemble .inc .direct true 0x01), encode (assemble .sbc .shortest true 0x01),
      encode (assemble .add .direct true 0x01)] =
      [[0xDF], [0xB6, 0x00], [0x5E], [0x3C, 0x10], [0xDF], [0x53], [0x3C, 0x01], [0xB2, 0x01], [0xBB, 0x01]] := by decide

theorem test_disassembler_styles :
    disassemble false 0x3E 0x45 0x0F = .ldxImm 0x45 ∧ disassemble true 0x3E 0x45 0x0F = .movImm 0x45 0x0F ∧ disassemble false 0xCE 0 0 = .ldaIx ∧
      disassemble true 0xCE 0 0 = .ldaSrt 0x0E := by decide

end Sys2Proof.Tests
end

section
/-! PROOFS. What a fetch that nothing disturbs gives, and with it O7: a step runs the instruction that the bytes at PC decode to (00_scope R18). -/

namespace Sys2Proof.Machine

/-! ## Instruction bytes and the decoder (30_encoding R100) -/

/-- Every opcode, illegal or not, makes the CPU fetch one, two or three bytes (30_encoding R100, R114). -/
theorem opLength_cases (op : Byte) : opLength op = 1 ∨ opLength op = 2 ∨ opLength op = 3 := by
  unfold opLength
  split
  case h_3 | h_4 | h_5 | h_6 => (repeat' split) <;> simp
  all_goals simp

theorem opLength_pos (op : Byte) : 0 < opLength op := by
  rcases opLength_cases op with h | h | h <;> omega

theorem decode_one {op b1 b2 : Byte} (h : opLength op = 1) : decode [op, b1, b2] = .decoded (decodeOp op 0 0) [b1, b2] := if_pos h

theorem decode_two {op b1 b2 : Byte} (h : opLength op = 2) : decode [op, b1, b2] = .decoded (decodeOp op b1 0) [b2] := by
  simp [decode, h]

theorem decode_three {op b1 b2 : Byte} (h : opLength op = 3) : decode [op, b1, b2] = .decoded (decodeOp op b1 b2) [] := by
  simp [decode, h]

/-! ## Fetches with the breakpoint disabled and no store on record (20_memory R76, R86) -/

/-- Where no store is on record no byte the CPU has prefetched is stale (20_memory R86; log 13). -/
theorem State.stale_of_no_stores {s : State} (h : s.stores = []) (p : Addr) : s.stale p = false := by
  simp [State.stale, h]

/-- With the breakpoint disabled an access leaves no request (60_exceptions R355). -/
theorem State.touch_of_disabled {s : State} (h : s.bdcscr.bkpten = false) (p : Addr) : s.touch p = s := by
  simp [State.touch, State.breakpointHit, h]

/-- With the breakpoint disabled no opcode is tagged (60_exceptions R354). -/
theorem State.tagOpcode_of_disabled {s : State} (h : s.bdcscr.bkpten = false) : s.tagOpcode = { s with tag := false } := by
  simp [State.tagOpcode, h]

/-- A fetch from RAM or flash that the breakpoint does not see gives the byte there and leaves the state as it is. -/
theorem fetch_plain {s : State} {p : Addr} (hb : s.bdcscr.bkpten = false) (hs : s.stores = []) (hu : s.unstated p = false) (hk : s.dev.kindAt p ≠ .illegal) :
    fetch p s = .ok (s.byteAt p) s := by
  have hpeek : s.peek p = s.byteAt p := by simp [State.peek, hu]
  have hread : s.afterRead p = s := by simp [State.afterRead, State.touch_of_disabled hb, State.draws, hu]
  simp [fetch, hk, State.stale_of_no_stores hs, hpeek, hread]

/-- Where RAM or flash stands at the addresses of the instruction, the bytes at PC are fetched one by one and decoded as `decode` does, and the state stays as it is. -/
theorem fetchInstr_plain {s : State} {i : Instr} {rest : List Byte} (hb : s.bdcscr.bkpten = false) (hs : s.stores = [])
    (hbytes : ∀ k : Nat, k < opLength (s.byteAt s.pc) → s.unstated (s.pc + BitVec.ofNat 14 k) = false ∧ s.dev.kindAt (s.pc + BitVec.ofNat 14 k) ≠ .illegal)
    (hd : decode [s.byteAt s.pc, s.byteAt (s.pc + 1), s.byteAt (s.pc + 2)] = .decoded i rest) : fetchInstr s = .ok i s := by
  have hfetch (k : Nat) (hk : k < opLength (s.byteAt s.pc)) :
      fetch (s.pc + BitVec.ofNat 14 k) s = .ok (s.byteAt (s.pc + BitVec.ofNat 14 k)) s :=
    fetch_plain hb hs (hbytes k hk).1 (hbytes k hk).2
  have h0 : fetch s.pc s = .ok (s.byteAt s.pc) s := by simpa using hfetch 0 (opLength_pos _)
  rcases opLength_cases (s.byteAt s.pc) with hl | hl | hl
  · rw [decode_one hl] at hd
    cases hd
    simp [fetchInstr, h0, hl]
  · have h1 := hfetch 1 (by omega)
    rw [decode_two hl] at hd
    cases hd
    simp [fetchInstr, h0, hl, h1]
  · have h1 := hfetch 1 (by omega)
    have h2 := hfetch 2 (by omega)
    rw [decode_three hl] at hd
    cases hd
    simp [fetchInstr, h0, hl, h1, h2]

/-! ## The CPU's turn with nothing pending -/

/-- In run mode, with the breakpoint disabled and no request pending, the CPU's turn is its instruction; a tag left from before is taken back. -/
theorem cpuStep_run_plain {s : State} (hm : s.mode = .run) (hb : s.bdcscr.bkpten = false) (hf : s.forcedRequest = false) (hr : s.backgroundRequest = false) :
    cpuStep s = runInstr { s with tag := false } := by
  have htag : s.tagOpcode = { s with tag := false } := State.tagOpcode_of_disabled hb
  have hnone : s.tagOpcode.debugStop = none := State.debugStop_none (by rw [htag]) hf hr
  rcases cpuStep_run hm with ⟨t, ht, -⟩ | ⟨-, hrun⟩
  · cases hnone.symm.trans ht
  · rw [hrun, htag]

/-- An instruction that the fetch has completed is executed, and the boundary after it follows (00_scope R18). -/
theorem runInstr_of_fetched {s t : State} {i : Instr} (h : fetchInstr s = .ok i t) :
    runInstr s = onNext (exec i { t with afterSleep := false }) fun u => .next u.settle := by
  simp [runInstr, instruction, h]

/-- Settles O7: nothing stops the CPU before the instruction, and the fetch of its bytes changes nothing, so that the turn is `exec` at the same state. -/
theorem stepRunsTheDecodedInstruction : Obligations.StepRunsTheDecodedInstruction := by
  unfold Obligations.StepRunsTheDecodedInstruction
  intro s i rest henv hmode hbkpt htag hforced hbackground hstores hbytes hdecode
  have hsame : { s with tag := false } = s := by rw [← htag]
  calc step s = cpuStep s := step_empty henv
    _ = runInstr s := by rw [cpuStep_run_plain hmode hbkpt hforced hbackground, hsame]
    _ = _ := runInstr_of_fetched (fetchInstr_plain hbkpt hstores hbytes hdecode)

end Sys2Proof.Machine
end

section
/-! PROOFS. Registers after reset and the debug registers: O36 and O42. -/

namespace Sys2Proof.Machine

/-- Settles O36: entering a reset loads the three registers, and the end of the reset changes BDCSCR and the mode alone. -/
theorem resetTakesTheseValues : Obligations.ResetTakesTheseValues := by
  unfold Obligations.ResetTakesTheseValues
  refine ⟨fun cause s => ?_, rfl, rfl, rfl⟩
  simp [takeReset, resetAddress]

/-! ## BDCSCR as a byte (10_state R41) -/

/-- Where each field of BDCSCR stands in the byte; bits 3 and 0 have no storage (decision D11, log 18). -/
theorem Bdcscr.getLsbD_toByte (r : Bdcscr) :
    r.toByte.getLsbD 7 = r.enbdm ∧ r.toByte.getLsbD 6 = r.bdmact ∧ r.toByte.getLsbD 5 = r.bkpten ∧ r.toByte.getLsbD 4 = r.fts ∧
      r.toByte.getLsbD 3 = false ∧ r.toByte.getLsbD 2 = r.ws ∧ r.toByte.getLsbD 1 = r.wsf ∧ r.toByte.getLsbD 0 = false := by
  obtain ⟨enbdm, bdmact, bkpten, fts, ws, wsf⟩ := r
  revert enbdm bdmact bkpten fts ws wsf
  decide

/-- Settles O42: each of the four commands is one update of the state, and the bits of the status byte are those of `Bdcscr.toByte`. -/
theorem debugRegisterCommands : Obligations.DebugRegisterCommands := by
  unfold Obligations.DebugRegisterCommands
  intro s cc w
  have hread : Commands .readStatus [0xE4#8] s { s with reply := [s.status] } := ⟨rfl, rfl⟩
  exact ⟨hread, s.bdcscr.getLsbD_toByte, ⟨rfl, rfl⟩, ⟨rfl, rfl⟩, ⟨rfl, rfl⟩⟩

end Sys2Proof.Machine
end

section
/-! PROOFS. What every instruction of the CPU ends in: a reset, or one last operation on a state that its accesses leave. With it O57. -/

namespace Sys2Proof.Machine

/-! ## Properties that the accesses keep -/

/-- The state an access ends in, also where it asks for a reset. -/
def Access.state {α : Type} : Access α → State
  | .ok _ s => s
  | .abort _ s => s

@[simp] theorem Access.state_ok {α : Type} (v : α) (s : State) : (Access.ok v s).state = s := rfl
@[simp] theorem Access.state_abort {α : Type} (cause : ResetCause) (s : State) : (Access.abort cause s : Access α).state = s := rfl

/-- What holds after an access, and is kept by what follows on its value, holds at the end. -/
theorem Access.bind_state {α β : Type} {P : State → Prop} {x : Access α} {f : α → State → Access β} (hx : P x.state)
    (hf : ∀ v t, P t → P (f v t).state) : P (x.bind f).state := by
  cases x with
  | ok v t => exact hf v t hx
  | abort cause t => exact hx

/-- A property of states that nothing an instruction does up to its last operation destroys: taking PC past the instruction, its accesses and the commands between them. -/
structure KeptByAccesses (P : State → Prop) : Prop where
  advance : ∀ {s : State} (len : Addr), P s → P (s.advance len)
  read : ∀ {s : State} (p : Addr), P s → P (s.afterRead p)
  write : ∀ {s : State} (p : Addr) (v : Byte), P s → P ((s.touch p).store p v)
  stolen : ∀ {s : State}, P s → P (stolenCycle s).state

theorem KeptByAccesses.memRead {P : State → Prop} (hP : KeptByAccesses P) {s : State} (hs : P s) (a : Byte) : P (memRead a s).state := by
  unfold Machine.memRead physRead
  split
  · exact hs
  · exact hP.read _ hs

theorem KeptByAccesses.memWrite {P : State → Prop} (hP : KeptByAccesses P) {s : State} (hs : P s) (a v : Byte) : P (memWrite a v s).state := by
  unfold Machine.memWrite physWrite
  split
  · exact hs
  · exact hP.write _ v hs

/-! ## The operand shapes (30_encoding R101–R108) -/

/-- The instruction ends in a reset out of a state with `P`, or in its last operation `f`, with the value it has, at a state with `P`. -/
def Completes (P : State → Prop) (f : Byte → State → State) (t : State) : Prop :=
  (∃ cause u, P u ∧ t = takeReset cause u) ∨ ∃ v u, P u ∧ t = f v u

/-- The same of an access, before its outcome is formed. -/
def Access.Ends (P : State → Prop) (f : Byte → State → State) : Access Unit → Prop
  | .ok _ t => ∃ v u, P u ∧ t = f v u
  | .abort _ t => P t

theorem Access.bind_ends {α : Type} {P : State → Prop} {f : Byte → State → State} {x : Access α} {k : α → State → Access Unit} (hx : P x.state)
    (hk : ∀ v t, P t → (k v t).Ends P f) : (x.bind k).Ends P f := by
  cases x with
  | ok v t => exact hk v t hx
  | abort cause t => exact hx

theorem Access.Ends.completes {P : State → Prop} {f : Byte → State → State} {x : Access Unit} {t : State} (hx : x.Ends P f) (h : x.finish = .next t) :
    Completes P f t := by
  cases x with
  | ok v u => cases h; exact .inr hx
  | abort cause u => cases h; exact .inl ⟨cause, u, hx, rfl⟩

section
variable {P : State → Prop} (hP : KeptByAccesses P) {s t : State} (hs : P s) {f : Byte → State → State} {len : Addr}
include hP hs

theorem inherent_completes {g : State → State} (h : inherent len g s = .next t) : Completes P (fun _ => g) t := by
  cases h
  exact .inr ⟨0, _, hP.advance len hs, rfl⟩

theorem readOperand_completes {a : Byte} (h : readOperand len a f s = .next t) : Completes P f t := by
  refine Access.Ends.completes ?_ h
  exact Access.bind_ends (hP.memRead (hP.advance len hs) a) fun v u hu => ⟨v, u, hu, rfl⟩

theorem writeOperand_completes {a v : Byte} (h : writeOperand len a v (f v) s = .next t) : Completes P f t := by
  refine Access.Ends.completes ?_ h
  exact Access.bind_ends (hP.memWrite (hP.advance len hs) a v) fun _ u hu => ⟨v, u, hu, rfl⟩

theorem modifyOperand_completes {a : Byte} {g : Byte → Byte} (h : modifyOperand len a g f s = .next t) : Completes P f t := by
  refine Access.Ends.completes ?_ h
  exact Access.bind_ends (hP.memRead (hP.advance len hs) a) fun v _ hu =>
    Access.bind_ends (hP.stolen hu) fun _ _ hu =>
      Access.bind_ends (hP.memWrite hu a (g v)) fun _ u hu => ⟨g v, u, hu, rfl⟩

theorem moveOperand_completes {src dst : Byte} (h : moveOperand len src dst f s = .next t) : Completes P f t := by
  refine Access.Ends.completes ?_ h
  exact Access.bind_ends (hP.memRead (hP.advance len hs) src) fun v _ hu =>
    Access.bind_ends (hP.stolen hu) fun _ _ hu =>
      Access.bind_ends (hP.memWrite hu dst v) fun _ u hu => ⟨v, u, hu, rfl⟩

end

/-! ## The last operation of each instruction -/

/-- What a native instruction does once PC is past it and its accesses are made, with the value it has read or written. RTS alone leaves PC to this operation. -/
def lastOperation : Instr → Byte → State → State
  | .brset n _ rr => State.branchOnBit n true rr
  | .brclr n _ rr => State.branchOnBit n false rr
  | .bra rr => fun _ u => u.branchIf true rr
  | .bcc rr => fun _ u => u.branchIf (!u.c) rr
  | .bcs rr => fun _ u => u.branchIf u.c rr
  | .bne rr => fun _ u => u.branchIf (!u.z) rr
  | .beq rr => fun _ u => u.branchIf u.z rr
  | .cbeqDir _ rr => State.branchIfA rr
  | .cbeqa ii rr => fun _ => State.branchIfA rr ii
  | .dbnzDir _ rr => State.branchIfNonzero rr
  | .dbnza rr => fun _ u => { u with a := u.a - 1 }.branchIfNonzero rr (u.a - 1)
  | .jmp ea => fun _ u => u.jumpTo ea
  | .jsr ea => fun _ u => { u with spc := u.pc }.jumpTo ea
  | .bsr rr => fun _ u => { u with spc := u.pc }.jumpTo (u.pc + offset rr)
  | .rts => fun _ u => u.jumpTo u.spc
  | .sla => fun _ u => { u with a := spcLow u.spc, spc := withSpcLow u.spc u.a }
  | .sha => fun _ u => { u with a := spcHigh u.spc, spc := withSpcHigh u.spc u.a }
  | .clc => fun _ u => { u with c := false }
  | .sec => fun _ u => { u with c := true }
  | .wait => fun _ => State.sleep .wait
  | .stop => fun _ => State.sleep .stop
  | .bgnd => fun _ => State.stopForDebug
  | .incTny _ | .incDir _ | .decTny _ | .decDir _ | .clrDir _ | .clrSrt _ | .movImm .. | .movDir .. | .staDir _ | .staSrt _ => State.testZ
  | .ldaDir _ | .ldaSrt _ => State.loadA
  | .andDir _ => State.and
  | .oraDir _ => State.ora
  | .eorDir _ => State.eor
  | .adcDir _ => State.adc
  | .addDir _ | .addTny _ => State.add
  | .sbcDir _ => State.sbc
  | .subDir _ | .subTny _ => State.sub
  | .cmpDir _ => State.cmp
  | .ldaImm ii => fun _ => State.loadA ii
  | .andImm ii => fun _ => State.and ii
  | .oraImm ii => fun _ => State.ora ii
  | .eorImm ii => fun _ => State.eor ii
  | .adcImm ii => fun _ => State.adc ii
  | .addImm ii => fun _ => State.add ii
  | .sbcImm ii => fun _ => State.sbc ii
  | .subImm ii => fun _ => State.sub ii
  | .cmpImm ii => fun _ => State.cmp ii
  | .coma => fun _ u => u.resultA (~~~u.a, true)
  | .lsra => fun _ u => u.resultA (shiftRight8 u.a false)
  | .rora => fun _ u => u.resultA (shiftRight8 u.a u.c)
  | .lsla => fun _ u => u.resultA (shiftLeft8 u.a false)
  | .rola => fun _ u => u.resultA (shiftLeft8 u.a u.c)
  | .inca => fun _ u => u.loadA (u.a + 1)
  | .deca => fun _ u => u.loadA (u.a - 1)
  | .clra => fun _ => State.loadA 0#8
  | _ => fun _ u => u

/-- Everything an instruction of the CPU can end in (60_exceptions R321, R323, R325): a reset, or the last operation of the native instruction it is assembled to. -/
theorem exec_completes {P : State → Prop} (hP : KeptByAccesses P) {i : Instr} (hc : isCommand i = false) {s t : State} (hs : P s) (h : exec i s = .next t) :
    Completes P (lastOperation (native i)) t := by
  unfold exec at h
  cases i with
  | brset | brclr | cbeqDir | subDir | cmpDir | sbcDir | andDir | ldaDir | eorDir | adcDir | oraDir | addDir | addTny | subTny | ldaSrt
  | adcIx | adcX | sbcIx | sbcX | andIx | andX | oraIx | oraX | eorIx | eorX | cmpIx | cmpX | addIx | addX | subIx | subX
  | brsetIx | brsetX | brclrIx | brclrX | cbeqIx | cbeqX | ldaIx | txa => exact readOperand_completes hP hs h
  | movImm | clrDir | clrSrt | staDir | staSrt | clrIx | clrX | staIx | staX | tax | ldxImm | movImmIx =>
    exact writeOperand_completes (f := State.testZ) hP hs h
  | bset | bclr | incTny | decTny | incDir | decDir | dbnzDir | incIx | incX | decIx | decX | bsetIx | bsetX | bclrIx | bclrX | dbnzIx | dbnzX =>
    exact modifyOperand_completes hP hs h
  | movDir | ldxDir | ldxIx | stxDir | movIxDir | movDirIx | tstDir | tstIx | tstX => exact moveOperand_completes hP hs h
  | bra | bcc | bcs | bne | beq | bhs | blo | brn | cbeqa | dbnza | jmp | jsr | bsr | sla | sha | clc | sec | wait | stop | bgnd | nop
  | ldaImm | andImm | oraImm | eorImm | adcImm | addImm | sbcImm | subImm | cmpImm | coma | lsra | rora | lsla | rola | asla | inca | deca | clra | tsta =>
    exact inherent_completes hP hs h
  | rts => cases h; exact .inr ⟨0, s, hs, rfl⟩
  | illegal32 | illegal33 | illegal3D | illegal40 | illegal47 | illegal4D | illegalA3 | illegalA5 | illegalA7 | illegalB3 | illegalB5 =>
    cases h; exact .inl ⟨_, s, hs, rfl⟩
  | bdcReset | background | readStatus | writeControl | readByte | readByteWs | writeByte | writeByteWs | readBkpt | writeBkpt | go | trace1
  | readBlock | writeBlock | readA | writeA | readCcrPc | writeCcrPc | readSpc | writeSpc | sync => cases hc

/-! ## Registers -/

/-- `u` has the registers and flags of `s` that no access changes. -/
structure State.SameRegisters (s u : State) : Prop where
  a : u.a = s.a
  spc : u.spc = s.spc
  z : u.z = s.z
  c : u.c = s.c

/-- Without a command waiting for a stolen cycle, an instruction keeps A, SPC and the flags up to its last operation. -/
theorem State.SameRegisters.keptByAccesses (s : State) : KeptByAccesses fun u => s.SameRegisters u ∧ u.stolen = [] where
  advance _ h := ⟨⟨h.1.a, h.1.spc, h.1.z, h.1.c⟩, h.2⟩
  read _ h := ⟨⟨h.1.a, h.1.spc, h.1.z, h.1.c⟩, h.2⟩
  write _ _ h := ⟨⟨by simp [h.1.a], by simp [h.1.spc], by simp [h.1.z], by simp [h.1.c]⟩, by simp [h.2]⟩
  stolen h := by rw [stolenCycle_none h.2]; exact h

@[simp] theorem State.branchIf_a (s : State) (taken : Bool) (rr : Byte) : (s.branchIf taken rr).a = s.a := by unfold State.branchIf; split <;> rfl
@[simp] theorem State.branchIf_spc (s : State) (taken : Bool) (rr : Byte) : (s.branchIf taken rr).spc = s.spc := by unfold State.branchIf; split <;> rfl
@[simp] theorem State.branchIf_z (s : State) (taken : Bool) (rr : Byte) : (s.branchIf taken rr).z = s.z := by unfold State.branchIf; split <;> rfl
@[simp] theorem State.branchIf_c (s : State) (taken : Bool) (rr : Byte) : (s.branchIf taken rr).c = s.c := by unfold State.branchIf; split <;> rfl

/-- WAIT and STOP keep the registers, whether or not the CPU resumes at once (60_exceptions R340). -/
theorem State.sameRegisters_sleep (m : Mode) (s : State) : s.SameRegisters (s.sleep m) := by
  unfold State.sleep
  split <;> exact ⟨rfl, rfl, rfl, rfl⟩

/-- BGND enters active background mode, where it is enabled, or resets (60_exceptions R324). -/
theorem State.stopForDebug_cases (s : State) :
    (s.bdcscr.enbdm = true ∧ s.stopForDebug = s.enterBackground) ∨ (s.bdcscr.enbdm = false ∧ s.stopForDebug = takeReset .illegalOpcode s) := by
  cases h : s.bdcscr.enbdm <;> simp [State.stopForDebug, h]

/-- Settles O57: the accesses keep the registers and flags, and the rest is what each last operation writes. -/
theorem instructionsThatKeepRegisters : Obligations.InstructionsThatKeepRegisters := by
  unfold Obligations.InstructionsThatKeepRegisters
  intro i s t hc hstolen h
  have hs : s.SameRegisters s ∧ s.stolen = [] := ⟨⟨rfl, rfl, rfl, rfl⟩, hstolen⟩
  rcases exec_completes (State.SameRegisters.keptByAccesses s) hc hs h with ⟨cause, u, -, rfl⟩ | ⟨v, u, ⟨hu, -⟩, rfl⟩
  · exact .inl ⟨cause, u, rfl⟩
  generalize native i = j
  rw [← hu.a, ← hu.spc, ← hu.z, ← hu.c]
  cases j with
  | bgnd =>
    rcases u.stopForDebug_cases with ⟨-, he⟩ | ⟨-, he⟩
    · have hk : u.SameRegisters u.stopForDebug := he ▸ ⟨rfl, rfl, rfl, rfl⟩
      exact .inr ⟨hk.z, hk.c, hk.spc, hk.a⟩
    · exact .inl ⟨_, u, he⟩
  | wait | stop =>
    have hk (m : Mode) := u.sameRegisters_sleep m
    exact .inr ⟨(hk _).z, (hk _).c, (hk _).spc, (hk _).a⟩
  | bra | bcc | bcs | bne | beq | cbeqDir | cbeqa | dbnzDir =>
    exact .inr ⟨u.branchIf_z _ _, u.branchIf_c _ _, u.branchIf_spc _ _, u.branchIf_a _ _⟩
  | dbnza => exact .inr ⟨State.branchIf_z _ _ _, State.branchIf_c _ _ _, State.branchIf_spc _ _ _, trivial⟩
  | brset | brclr => exact .inr ⟨State.branchIf_z _ _ _, trivial, State.branchIf_spc _ _ _, State.branchIf_a _ _ _⟩
  | bset | bclr | jmp | rts | nop => exact .inr ⟨rfl, rfl, rfl, rfl⟩
  | sec | clc => exact .inr ⟨rfl, trivial, rfl, rfl⟩
  | jsr | bsr => exact .inr ⟨rfl, rfl, trivial, rfl⟩
  | sha | sla => exact .inr ⟨rfl, rfl, trivial, trivial⟩
  | incDir | incTny | decDir | decTny | clrDir | clrSrt | staDir | staSrt | movImm | movDir => exact .inr ⟨trivial, rfl, rfl, rfl⟩
  | inca | deca | clra | ldaImm | ldaDir | ldaSrt | andImm | andDir | oraImm | oraDir | eorImm | eorDir => exact .inr ⟨trivial, rfl, rfl, trivial⟩
  | cmpImm | cmpDir => exact .inr ⟨trivial, trivial, rfl, rfl⟩
  | _ => exact .inr ⟨trivial, trivial, rfl, trivial⟩

end Sys2Proof.Machine
end

section
/-! PROOFS. The invariant of the machine as a claim about memory and the control part of the state, and every reset meets it: O53. -/

namespace Sys2Proof.Machine

/-! ## The control part of a state -/

/-- What the invariant of the machine reads beside memory. Registers, flags, replies and the record of stores are not in it, so that an update of those keeps it by computation. -/
structure Control where
  mode : Mode
  enbdm : Bool
  bdmact : Bool
  ws : Bool
  serial : Serial
  forcedRequest : Bool
  backgroundRequest : Bool
  trace : Bool
  stolen : List Instr
  collision : Bool

/-- The control part of a state. -/
def State.control (s : State) : Control where
  mode := s.mode
  enbdm := s.bdcscr.enbdm
  bdmact := s.bdcscr.bdmact
  ws := s.bdcscr.ws
  serial := s.serial
  forcedRequest := s.forcedRequest
  backgroundRequest := s.backgroundRequest
  trace := s.trace
  stolen := s.stolen
  collision := s.collision

/-- Memory is in canonical form and the control part has `Q`. -/
def State.Holds (Q : Control → Prop) (s : State) : Prop := s.mem.wf = true ∧ Q s.control

theorem State.Holds.memory {Q : Control → Prop} {s : State} (h : s.Holds Q) : s.mem.wf = true := h.1

theorem State.Holds.control {Q : Control → Prop} {s : State} (h : s.Holds Q) : Q s.control := h.2

theorem State.Holds.imp {Q R : Control → Prop} {s : State} (h : s.Holds Q) (hQR : Q s.control → R s.control) : s.Holds R := ⟨h.memory, hQR h.control⟩

/-- BDCSCR and the serial state agree with the mode (10_state R39, R43, R46; 47_bdc_commands R310). -/
structure Control.Coherent (c : Control) : Prop where
  active : c.bdmact = (c.mode == .background)
  enabled : c.mode = .background → c.enbdm = true
  asleep : c.mode = .wait ∨ c.mode = .stop → c.ws = true
  awake : c.mode = .run → c.ws = false
  blocks : c.mode ≠ .background → c.serial.noBlockAccess = true

/-- No request of the debug logic and no trace is left over (60_exceptions R335). -/
structure Control.Quiet (c : Control) : Prop where
  noForced : c.forcedRequest = false
  noBackground : c.backgroundRequest = false
  noTrace : c.trace = false

/-- The control part between two steps; in a `turn`, commands that have found no place in its instruction may still wait. -/
structure Control.Settled (turn : Bool) (c : Control) : Prop where
  coherent : c.Coherent
  quiet : c.Quiet
  noStolen : turn = false → c.stolen = []
  noCollision : c.collision = false

/-- BDMACT tells active background mode (10_state R43). -/
theorem Control.Coherent.bdmact_iff {c : Control} (h : c.Coherent) : c.bdmact = true ↔ c.mode = .background := by
  rw [h.active, beq_iff_eq]

theorem State.asleep_iff (s : State) : s.asleep = true ↔ s.mode = .wait ∨ s.mode = .stop := by
  simp [State.asleep]

/-- The invariant is a claim about memory and the control part alone. -/
theorem State.inv_iff (s : State) : s.Inv ↔ s.Holds (Control.Settled false) where
  mp h := ⟨h.memory, ⟨h.active, h.enabled, fun hm => h.asleep (s.asleep_iff.2 hm), h.awake, h.blocks⟩, ⟨h.noForced, h.noBackground, h.noTrace⟩,
    fun _ => h.noStolen, h.noCollision⟩
  mpr h := by
    obtain ⟨hm, hc, hq, hs, hn⟩ := h
    exact ⟨hm, hc.active, hc.enabled, fun ha => hc.asleep (s.asleep_iff.1 ha), hc.awake, hc.blocks, hq.noForced, hq.noBackground, hq.noTrace, hs rfl, hn⟩

/-- Registers, flags, replies and inputs are no part of the invariant. -/
theorem State.Inv.of_control {s t : State} (h : s.Inv) (hm : t.mem = s.mem) (hc : t.control = s.control) : t.Inv := by
  rw [State.inv_iff] at *
  unfold State.Holds
  rw [hm, hc]
  exact h

/-- Between two steps outside a turn no command waits, whichever turn is asked about. -/
theorem State.Inv.settled {s : State} (h : s.Inv) (turn : Bool) : s.Holds (Control.Settled turn) :=
  (s.inv_iff.1 h).imp fun hc => ⟨hc.coherent, hc.quiet, fun _ => hc.noStolen rfl, hc.noCollision⟩

/-- The end of a turn drops the commands that still wait (log 25). -/
theorem State.Holds.inv_drop_stolen {turn : Bool} {s : State} (h : s.Holds (Control.Settled turn)) : State.Inv { s with stolen := [] } :=
  (State.inv_iff _).2 ⟨h.memory, ⟨h.control.coherent.active, h.control.coherent.enabled, h.control.coherent.asleep, h.control.coherent.awake, h.control.coherent.blocks⟩,
    ⟨h.control.quiet.noForced, h.control.quiet.noBackground, h.control.quiet.noTrace⟩, fun _ => rfl, h.control.noCollision⟩

/-! ## Resets (70_reset_and_hazards R370, R372) -/

/-- The reset condition has the invariant, whatever the registers and requests were. -/
theorem State.inv_enterReset (cause : ResetCause) {s : State} (hm : s.mem.wf = true) : (s.enterReset cause).Inv :=
  ⟨hm, rfl, nofun, nofun, nofun, fun _ => rfl, rfl, rfl, rfl, rfl, rfl⟩

/-- Either end of a reset, run mode or active background mode, has the invariant. -/
theorem State.Inv.leaveReset {s : State} (h : s.Inv) (hr : s.mode = .reset) : s.leaveReset.Inv := by
  have hserial : s.serial.noBlockAccess = true := h.blocks (by simp [hr])
  unfold State.leaveReset
  split
  · exact ⟨h.memory, rfl, fun _ => rfl, nofun, nofun, fun _ => hserial, h.noForced, h.noBackground, h.noTrace, h.noStolen, h.noCollision⟩
  · exact ⟨h.memory, rfl, nofun, nofun, fun _ => rfl, fun _ => hserial, h.noForced, h.noBackground, h.noTrace, h.noStolen, h.noCollision⟩

theorem State.inv_takeReset (cause : ResetCause) {s : State} (hm : s.mem.wf = true) : (takeReset cause s).Inv :=
  (s.inv_enterReset cause hm).leaveReset rfl

/-- Settles O53: a reset is the reset condition and its end; the state the model starts from is checked field by field. -/
theorem resetMeetsInvariant : Obligations.ResetMeetsInvariant := by
  unfold Obligations.ResetMeetsInvariant
  exact ⟨⟨rfl, rfl, nofun, nofun, fun _ => rfl, fun _ => rfl, rfl, rfl, rfl, rfl, rfl⟩, fun cause _ hm => State.inv_takeReset cause hm⟩

end Sys2Proof.Machine
end

section
/-! PROOFS. What an instruction of the CPU, and the boundary after it, make of the control part. -/

namespace Sys2Proof.Machine

/-! ## Inside an instruction and at the boundary after it -/

/-- The control part inside an instruction. Commands wait for stolen cycles in a `turn` alone, and a traced instruction is in none (47_bdc_commands R309). -/
structure Control.Running (turn : Bool) (c : Control) : Prop where
  mode : c.mode = .run
  bdmact : c.bdmact = false
  ws : c.ws = false
  blocks : c.serial.noBlockAccess = true
  traced : c.trace = true → c.enbdm = true ∧ turn = false
  noStolen : turn = false → c.stolen = []
  noCollision : c.collision = false

/-- The control part at a boundary, before the debug logic acts: where the CPU is still on its way, requests and a trace may be pending. -/
structure Control.AtBoundary (turn : Bool) (c : Control) : Prop where
  coherent : c.Coherent
  parked : c.mode = .background ∨ c.mode = .reset → c.Quiet
  traced : c.trace = true → c.enbdm = true
  noStolen : turn = false → c.stolen = []
  noCollision : c.collision = false

theorem Control.Running.coherent {turn : Bool} {c : Control} (h : c.Running turn) : c.Coherent :=
  ⟨by simp [h.bdmact, h.mode], by simp [h.mode], by simp [h.mode], fun _ => h.ws, fun _ => h.blocks⟩

/-- An instruction that changes no more than registers and memory leaves the boundary as it found the instruction. -/
theorem Control.Running.atBoundary {turn : Bool} {c : Control} (h : c.Running turn) : c.AtBoundary turn :=
  ⟨h.coherent, by simp [h.mode], fun ht => (h.traced ht).1, h.noStolen, h.noCollision⟩

theorem Control.Settled.atBoundary {turn : Bool} {c : Control} (h : c.Settled turn) : c.AtBoundary turn :=
  ⟨h.coherent, fun _ => h.quiet, by simp [h.quiet.noTrace], h.noStolen, h.noCollision⟩

/-- In run mode the CPU can begin an instruction. -/
theorem Control.AtBoundary.running {c : Control} (h : c.AtBoundary false) (hm : c.mode = .run) : c.Running false :=
  ⟨hm, by simp [h.coherent.active, hm], h.coherent.awake hm, h.coherent.blocks (by simp [hm]), fun ht => ⟨h.traced ht, rfl⟩, h.noStolen, h.noCollision⟩

/-! ## Stopping for the debug logic (60_exceptions R350, R356) -/

/-- Active background mode has the invariant where it is enabled, whatever was pending. -/
theorem State.settled_enterBackground {turn : Bool} {s : State} (hm : s.mem.wf = true) (he : s.bdcscr.enbdm = true) (hs : turn = false → s.stolen = [])
    (hn : s.collision = false) : s.enterBackground.Holds (Control.Settled turn) :=
  ⟨hm, ⟨rfl, fun _ => he, nofun, nofun, fun h => absurd rfl h⟩, ⟨rfl, rfl, rfl⟩, hs, hn⟩

theorem State.settled_stopForDebug {turn : Bool} {s : State} (hm : s.mem.wf = true) (hs : turn = false → s.stolen = []) (hn : s.collision = false) :
    s.stopForDebug.Holds (Control.Settled turn) := by
  rcases s.stopForDebug_cases with ⟨he, h⟩ | ⟨-, h⟩ <;> rw [h]
  · exact State.settled_enterBackground hm he hs hn
  · exact (State.inv_takeReset _ hm).settled turn

/-- Everything the debug logic can do at a boundary; where it does nothing no forced breakpoint is pending. -/
theorem State.debugStop_cases (s : State) :
    s.debugStop = some s.stopForDebug ∨ (s.bdcscr.enbdm = true ∧ s.debugStop = some s.enterBackground) ∨ (s.forcedRequest = false ∧ s.debugStop = none) := by
  unfold State.debugStop
  by_cases hf : (s.tag || s.forcedRequest) = true
  · exact .inl (if_pos hf)
  · rw [if_neg hf]
    simp only [Bool.or_eq_true, not_or, Bool.not_eq_true] at hf
    by_cases hb : (s.backgroundRequest && s.bdcscr.enbdm) = true
    · exact .inr (.inl ⟨(Bool.and_eq_true_iff.1 hb).2, if_pos hb⟩)
    · exact .inr (.inr ⟨hf.2, if_neg hb⟩)

theorem State.settled_debugStop {turn : Bool} {s t : State} (hm : s.mem.wf = true) (hs : turn = false → s.stolen = []) (hn : s.collision = false)
    (h : s.debugStop = some t) : t.Holds (Control.Settled turn) := by
  rcases s.debugStop_cases with hd | ⟨he, hd⟩ | ⟨-, hd⟩ <;> rw [hd] at h <;> cases h
  · exact State.settled_stopForDebug hm hs hn
  · exact State.settled_enterBackground hm he hs hn

/-- WS as the end of a traced instruction leaves it (log 19). -/
def State.clearWs (s : State) : State := { s with bdcscr := { s.bdcscr with ws := false } }

/-- A traced instruction ends in active background mode, where the debug logic does not stop the CPU before (47_bdc_commands R309). -/
theorem State.settle_traced {s : State} (h : s.mode = .run ∨ s.asleep = true) (ht : s.trace = true) :
    s.settle = s.clearWs.debugStop.getD s.clearWs.enterBackground := by
  cases hm : s.mode with
  | background | reset => simp [State.asleep, hm] at h
  | run | wait | stop =>
    simp only [State.settle, State.clearWs, hm, ht, if_true]
    split <;> rename_i hd <;> simp [hd]

/-- After the boundary nothing is pending. -/
theorem State.Holds.settle {turn : Bool} {s : State} (h : s.Holds (Control.AtBoundary turn)) : s.settle.Holds (Control.Settled turn) := by
  obtain ⟨hm, hc, hp, htr, hs, hn⟩ := h
  by_cases hparked : s.mode = .background ∨ s.mode = .reset
  · rw [State.settle_parked hparked]
    exact ⟨hm, hc, hp hparked, hs, hn⟩
  have hmoving : s.mode = .run ∨ s.asleep = true := by
    rw [s.asleep_iff]
    cases hmode : s.mode <;> simp_all
  cases ht : s.trace with
  | true =>
    rw [State.settle_traced hmoving ht]
    cases hd : s.clearWs.debugStop with
    | some t => exact State.settled_debugStop (s := s.clearWs) hm hs hn hd
    | none => exact State.settled_enterBackground (s := s.clearWs) hm (htr ht) hs hn
  | false =>
    rw [State.settle_moving hmoving ht]
    rcases s.debugStop_cases with hd | ⟨he, hd⟩ | ⟨hf, hd⟩ <;> rw [hd]
    · exact State.settled_stopForDebug hm hs hn
    · exact State.settled_enterBackground hm he hs hn
    · exact ⟨hm, ⟨hc.active, hc.enabled, hc.asleep, hc.awake, hc.blocks⟩, ⟨hf, rfl, ht⟩, hs, hn⟩

/-! ## Accesses of the host (47_bdc_commands R294, R295) -/

@[simp] theorem State.control_store (s : State) (p : Addr) (v : Byte) : (s.store p v).control = s.control := by
  simp [State.control]

theorem State.Holds.store {Q : Control → Prop} {s : State} (h : s.Holds Q) (p : Addr) (v : Byte) : (s.store p v).Holds Q :=
  ⟨State.wf_store h.memory p v, by rw [State.control_store]; exact h.control⟩

/-- A read of the host changes WSF and the count of free values alone, and so nothing of the control part. -/
theorem State.Holds.bdcRead {Q : Control → Prop} {s : State} (h : s.Holds Q) (p : Addr) : (bdcRead p s).state.Holds Q := by
  rcases bdcRead_cases p s with ⟨-, e⟩ | ⟨-, -, e⟩ | ⟨-, -, e⟩ <;> rw [e] <;> exact h

theorem State.Holds.bdcWrite {Q : Control → Prop} {s : State} (h : s.Holds Q) (p : Addr) (v : Byte) : (bdcWrite p v s).state.Holds Q := by
  rcases bdcWrite_cases p v s with ⟨-, e⟩ | ⟨-, -, e⟩ | ⟨-, -, e⟩ <;> rw [e]
  · exact h
  · exact h
  · exact h.store p v

theorem State.Holds.bdcReadByte {Q : Control → Prop} {s : State} (h : s.Holds Q) (p : Addr) (ws : Bool) : (bdcReadByte p ws s).state.Holds Q :=
  Access.bind_state (h.bdcRead p) fun _ _ ht => ht

theorem State.Holds.bdcWriteByte {Q : Control → Prop} {s : State} (h : s.Holds Q) (p : Addr) (v : Byte) (ws : Bool) : (bdcWriteByte p v ws s).state.Holds Q :=
  Access.bind_state (h.bdcWrite p v) fun _ _ ht => by
    cases ws <;> exact ht

/-! ## Accesses of the CPU, and commands between them (20_memory R79; 47_bdc_commands R279) -/

/-- A forced breakpoint may become pending inside an instruction (60_exceptions R355). -/
theorem State.Holds.touch {turn : Bool} {s : State} (h : s.Holds (Control.Running turn)) (p : Addr) : (s.touch p).Holds (Control.Running turn) :=
  ⟨h.memory, h.control.mode, h.control.bdmact, h.control.ws, h.control.blocks, h.control.traced, h.control.noStolen, h.control.noCollision⟩

/-- In run mode a BACKGROUND is noted for the boundary or ignored (47_bdc_commands R293). -/
theorem State.Holds.requestBackground {turn : Bool} {s : State} (h : s.Holds (Control.Running turn)) : s.requestBackground.Holds (Control.Running turn) := by
  have hawake : s.asleep = false := by
    have hm : s.mode = .run := h.control.mode
    simp [State.asleep, hm]
  unfold State.requestBackground
  split
  · exact h
  · rw [hawake, if_neg Bool.false_ne_true]
    exact ⟨h.memory, h.control.mode, h.control.bdmact, h.control.ws, h.control.blocks, h.control.traced, h.control.noStolen, h.control.noCollision⟩

/-- A command inside an instruction leaves the CPU in it, or asks for a reset; WRITE_CONTROL may clear ENBDM there, since no traced instruction is interrupted. -/
theorem State.Holds.hostCommand {s : State} (h : s.Holds (Control.Running true)) (i : Instr) : (hostCommand i s).state.Holds (Control.Running true) := by
  have htrace : s.trace ≠ true := fun ht => Bool.noConfusion (h.control.traced ht).2
  cases i with
  | background => exact h.requestBackground
  | writeControl => exact ⟨h.memory, h.control.mode, h.control.bdmact, h.control.ws, h.control.blocks, fun ht => absurd ht htrace, h.control.noStolen, h.control.noCollision⟩
  | readByte | readByteWs => exact h.bdcReadByte _ _
  | writeByte | writeByteWs => exact h.bdcWriteByte _ _ _
  | sync => exact ⟨h.memory, h.control.mode, h.control.bdmact, h.control.ws, rfl, h.control.traced, h.control.noStolen, h.control.noCollision⟩
  | _ => exact h

theorem State.Holds.performAll {s : State} (h : s.Holds (Control.Running true)) (is : List Instr) : (performAll is s).state.Holds (Control.Running true) := by
  induction is generalizing s with
  | nil => exact h
  | cons i is ih => exact Access.bind_state (h.hostCommand i) fun _ t ht => ih (s := t.delivered) ht

/-- Nothing an instruction does up to its last operation takes the CPU out of it, but for a reset. -/
theorem Control.Running.keptByAccesses (turn : Bool) : KeptByAccesses (State.Holds (Control.Running turn)) where
  advance _ h := h
  read p h := h.touch p
  write p v h := (h.touch p).store p v
  stolen {s} h := by
    cases turn with
    | false => rw [stolenCycle_none (h.control.noStolen rfl)]; exact h
    | true =>
      refine State.Holds.performAll (s := { s with stolen := [] }) ?_ s.stolen
      exact ⟨h.memory, h.control.mode, h.control.bdmact, h.control.ws, h.control.blocks, h.control.traced, fun _ => rfl, h.control.noCollision⟩

/-! ## The instruction -/

theorem State.Holds.branchIf {Q : Control → Prop} {s : State} (h : s.Holds Q) (taken : Bool) (rr : Byte) : (s.branchIf taken rr).Holds Q := by
  unfold State.branchIf
  split <;> exact h

/-- WAIT and STOP enter their mode with WS 1, or go on in run mode where a wake-up request is asserted (60_exceptions R340; log 37). -/
theorem State.Holds.sleep {turn : Bool} {s : State} (h : s.Holds (Control.Running turn)) {m : Mode} (hm : m = .wait ∨ m = .stop) :
    (s.sleep m).Holds (Control.AtBoundary turn) := by
  unfold State.sleep
  split
  · exact h.imp Control.Running.atBoundary
  · have hbdmact : s.bdcscr.bdmact = false := h.control.bdmact
    refine ⟨h.memory, ⟨?_, ?_, fun _ => rfl, ?_, fun _ => h.control.blocks⟩, ?_, fun ht => (h.control.traced ht).1, h.control.noStolen, h.control.noCollision⟩ <;>
      rcases hm with rfl | rfl <;> simp [State.control, hbdmact]

/-- The last operation of an instruction changes registers alone, but for WAIT, STOP and BGND (60_exceptions R340). -/
theorem State.Holds.lastOperation {turn : Bool} {u : State} (h : u.Holds (Control.Running turn)) (j : Instr) (v : Byte) :
    (lastOperation j v u).Holds (Control.AtBoundary turn) := by
  have hb : u.Holds (Control.AtBoundary turn) := h.imp Control.Running.atBoundary
  cases j with
  | wait => exact h.sleep (.inl rfl)
  | stop => exact h.sleep (.inr rfl)
  | bgnd => exact (State.settled_stopForDebug h.memory h.control.noStolen h.control.noCollision).imp Control.Settled.atBoundary
  | brset | brclr | bra | bcc | bcs | bne | beq | cbeqDir | cbeqa | dbnzDir | dbnza => exact State.Holds.branchIf (by exact hb) _ _
  | _ => exact hb

theorem exec_atBoundary {turn : Bool} {i : Instr} (hc : isCommand i = false) {s t : State} (hs : s.Holds (Control.Running turn)) (h : exec i s = .next t) :
    t.Holds (Control.AtBoundary turn) := by
  rcases exec_completes (Control.Running.keptByAccesses turn) hc hs h with ⟨cause, u, hu, rfl⟩ | ⟨v, u, hu, rfl⟩
  · exact ((State.inv_takeReset cause hu.memory).settled turn).imp Control.Settled.atBoundary
  · exact hu.lastOperation (native i) v

end Sys2Proof.Machine
end

section
/-! PROOFS. What the CPU fetches, and that its turns, also those with commands and a reset inside the instruction, keep the invariant. -/

namespace Sys2Proof.Machine

/-! ## Outcomes and accesses taken apart -/

theorem onNext_eq_next {o : Host.Outcome State Fault Refusal} {f : State → Host.Outcome State Fault Refusal} {t : State} (h : onNext o f = .next t) :
    ∃ u, o = .next u ∧ f u = .next t := by
  cases o with
  | next u => exact ⟨u, rfl, h⟩
  | fault r => cases h
  | refused r => cases h

theorem Access.bind_eq_ok {α β : Type} {x : Access α} {f : α → State → Access β} {w : β} {t : State} (h : x.bind f = .ok w t) :
    ∃ v u, x = .ok v u ∧ f v u = .ok w t := by
  cases x with
  | ok v u => exact ⟨v, u, rfl, h⟩
  | abort cause u => cases h

/-- An access that ends in a state with `Q` comes to its outcome in that state, or in the reset out of it. -/
theorem Access.finish_holds {Q : Control → Prop} {x : Access Unit} {t : State} (hx : x.state.Holds Q) (h : x.finish = .next t) : t.Holds Q ∨ t.Inv := by
  cases x with
  | ok v u => cases h; exact .inl hx
  | abort cause u => cases h; exact .inr (State.inv_takeReset cause hx.memory)

/-! ## Fetching (00_scope R18) -/

theorem State.Holds.fetch {turn : Bool} {s : State} (h : s.Holds (Control.Running turn)) (p : Addr) :
    (Machine.fetch p s).state.Holds (Control.Running turn) := by
  rcases fetch_cases p s with ⟨-, e⟩ | ⟨-, v, n, e⟩ <;> rw [e]
  · exact h
  · exact h.touch p

theorem State.Holds.fetchInstr {turn : Bool} {s : State} (h : s.Holds (Control.Running turn)) : (Machine.fetchInstr s).state.Holds (Control.Running turn) := by
  unfold Machine.fetchInstr
  refine Access.bind_state (h.fetch s.pc) fun op s1 h1 => ?_
  split
  · exact h1
  · refine Access.bind_state (h1.fetch _) fun b1 s2 h2 => ?_
    split
    · exact h2
    · exact Access.bind_state (h2.fetch _) fun _ _ h3 => h3

/-- What the CPU fetches it decodes with `decodeOp`. -/
theorem fetchInstr_decodes {s t : State} {i : Instr} (h : fetchInstr s = .ok i t) : ∃ op b1 b2, i = decodeOp op b1 b2 := by
  obtain ⟨op, s1, -, h⟩ := Access.bind_eq_ok h
  split at h
  · cases h; exact ⟨_, _, _, rfl⟩
  · obtain ⟨b1, s2, -, h⟩ := Access.bind_eq_ok h
    split at h
    · cases h; exact ⟨_, _, _, rfl⟩
    · obtain ⟨b2, s3, -, h⟩ := Access.bind_eq_ok h
      cases h
      exact ⟨_, _, _, rfl⟩

/-! ## Instructions of the CPU and commands of the host (30_encoding R110; 47_bdc_commands R278) -/

theorem isCommand_ite {p : Prop} [Decidable p] {i j : Instr} (hi : isCommand i = false) (hj : isCommand j = false) :
    isCommand (if p then i else j) = false := by
  split <;> assumption

theorem isCommand_byAddr (dd : Byte) {ix x plain : Instr} (hi : isCommand ix = false) (hx : isCommand x = false) (hp : isCommand plain = false) :
    isCommand (byAddr dd ix x plain) = false :=
  isCommand_ite hi (isCommand_ite hx hp)

theorem isCommand_decodeNative (op b1 b2 : Byte) : isCommand (decodeNative op b1 b2) = false := by
  unfold decodeNative
  split
  case h_1 | h_2 => split <;> rfl
  case h_4 => unfold decodeRow3; split <;> rfl
  case h_5 => unfold decodeRow4; split <;> rfl
  case h_11 => unfold decodeRowA; split <;> rfl
  case h_12 => unfold decodeRowB; split <;> rfl
  all_goals rfl

/-- Naming an instruction of the CPU gives an instruction of the CPU. -/
theorem isCommand_named {i : Instr} (h : isCommand i = false) : isCommand (named i) = false := by
  cases i with
  | brset | brclr | bset | bclr | cbeqDir | dbnzDir | adcDir | sbcDir | cmpDir | andDir | oraDir | eorDir | movImm => exact isCommand_byAddr _ rfl rfl rfl
  | incTny | decTny | addTny | subTny | clrSrt | ldaSrt | staSrt => exact isCommand_ite rfl (isCommand_ite rfl rfl)
  | bra | oraImm => exact isCommand_ite rfl rfl
  | movDir =>
    exact isCommand_ite (isCommand_byAddr _ rfl rfl rfl)
      (isCommand_ite (isCommand_ite rfl rfl) (isCommand_ite rfl (isCommand_ite rfl (isCommand_ite rfl rfl))))
  | _ => exact h

theorem isCommand_decodeOp (op b1 b2 : Byte) : isCommand (decodeOp op b1 b2) = false := isCommand_named (isCommand_decodeNative op b1 b2)

/-- A row of a table of commands, and the rows after it. -/
theorem isCommand_of_row {p : Prop} [Decidable p] {i j : Instr} {rows : Option Instr} (hj : isCommand j = true) (hrows : rows = some i → isCommand i = true)
    (h : (if p then some j else rows) = some i) : isCommand i = true := by
  split at h
  · cases h; exact hj
  · exact hrows h

/-- The bytes of the host make commands alone. -/
theorem isCommand_of_decodeCommand {code : Byte} {items : List Byte} {i : Instr} (h : decodeCommand code items = some i) : isCommand i = true := by
  revert h
  unfold decodeCommand
  split
  · unfold command0
    iterate 9 refine isCommand_of_row rfl ?_
    nofun
  · unfold command1
    iterate 2 refine isCommand_of_row rfl ?_
    nofun
  · unfold command2
    iterate 6 refine isCommand_of_row rfl ?_
    nofun
  · unfold command3
    iterate 3 refine isCommand_of_row rfl ?_
    nofun
  · nofun

/-! ## The CPU's turn -/

theorem instruction_atBoundary {turn : Bool} {s t : State} (hs : s.Holds (Control.Running turn)) (h : instruction s = .next t) :
    t.Holds (Control.AtBoundary turn) := by
  have hf := hs.fetchInstr
  unfold instruction at h
  cases hi : fetchInstr s with
  | abort cause u =>
    rw [hi] at hf h
    cases h
    exact ((State.inv_takeReset cause hf.memory).settled turn).imp Control.Settled.atBoundary
  | ok i u =>
    obtain ⟨op, b1, b2, rfl⟩ := fetchInstr_decodes hi
    rw [hi] at hf h
    exact exec_atBoundary (s := { u with afterSleep := false }) (isCommand_decodeOp op b1 b2) hf h

/-- In run mode the CPU stops for the debug logic, or runs one instruction and the boundary after it. -/
theorem cpuStep_settled {turn : Bool} {s t : State} (hs : s.Holds (Control.Running turn)) (h : cpuStep s = .next t) : t.Holds (Control.Settled turn) := by
  have htag : s.tagOpcode.Holds (Control.Running turn) := hs
  rcases cpuStep_run hs.control.mode with ⟨u, hu, e⟩ | ⟨-, e⟩ <;> rw [e] at h
  · cases h
    exact State.settled_debugStop htag.memory htag.control.noStolen htag.control.noCollision hu
  · obtain ⟨u, hu, h⟩ := onNext_eq_next h
    cases h
    exact (instruction_atBoundary htag hu).settle

/-- The wake-up request ends wait and stop with WS 0 (60_exceptions R333). -/
theorem State.Inv.wakeUp {s : State} (h : s.Inv) (ha : s.asleep = true) : s.wakeUp.Inv := by
  have hmode : s.mode ≠ .background := by
    rcases s.asleep_iff.1 ha with e | e <;> simp [e]
  have hbdmact : s.bdcscr.bdmact = false := by simp [h.active, hmode]
  exact ⟨h.memory, hbdmact, nofun, nofun, fun _ => rfl, fun _ => h.blocks hmode, h.noForced, h.noBackground, h.noTrace, h.noStolen, h.noCollision⟩

theorem State.Inv.running {s : State} (h : s.Inv) (hm : s.mode = .run) : s.Holds (Control.Running false) :=
  (h.settled false).imp fun hc => hc.atBoundary.running hm

theorem State.Inv.cpuStep {s t : State} (hs : s.Inv) (h : cpuStep s = .next t) : t.Inv := by
  by_cases hp : s.mode = .background ∨ s.mode = .reset
  · rw [cpuStep_parked hp] at h
    cases h
    exact hs
  by_cases ha : s.asleep = true
  · rw [cpuStep_asleep ha] at h
    cases h
    split
    · exact hs.wakeUp ha
    · exact hs
  · have hm : s.mode = .run := by
      rw [s.asleep_iff] at ha
      cases hmode : s.mode <;> simp_all
    exact (State.inv_iff t).2 (cpuStep_settled (hs.running hm) h)

/-! ## A turn with commands and a reset (47_bdc_commands R279; 60_exceptions R321) -/

theorem State.inv_resetFrom {s : State} (hs : s.Inv) (source : ResetSource) : (s.resetFrom source).Inv := by
  unfold State.resetFrom
  split
  · exact hs
  · exact State.inv_enterReset _ hs.memory

/-- Of the instruction before a reset memory alone is left. -/
theorem cpuToBoundary_wf {turn : Bool} {s t : State} (hs : s.Holds (Control.Running turn)) (h : cpuToBoundary s = .next t) : t.mem.wf = true := by
  unfold cpuToBoundary at h
  split at h
  · cases h; exact hs.memory
  · exact (instruction_atBoundary (s := s.tagOpcode) hs h).memory

theorem State.Inv.cpuTurn {s t : State} (hs : s.Inv) (commands : List Instr) (reset : Option TurnReset) (h : cpuTurn commands reset s = .next t) : t.Inv := by
  by_cases hm : s.mode = .run
  · rw [cpuTurn_run hm] at h
    obtain ⟨u, hu, h⟩ := onNext_eq_next h
    cases h
    generalize (if s.takesCommands then commands else []) = waiting at hu
    have hrun : State.Holds (Control.Running true) { s with stolen := waiting } := by
      obtain ⟨hwf, hc⟩ := hs.running hm
      exact ⟨hwf, hc.mode, hc.bdmact, hc.ws, hc.blocks, by simp [State.control, hs.noTrace], nofun, hc.noCollision⟩
    cases hr : s.turnReset reset with
    | none =>
      rw [hr] at hu
      exact (cpuStep_settled hrun hu).inv_drop_stolen
    | some r =>
      rw [hr] at hu
      have hwf : u.mem.wf = true := cpuToBoundary_wf hrun hu
      cases r with
      | source source => exact State.inv_enterReset _ hwf
      | bdcReset => exact State.inv_takeReset _ hwf
  · rw [cpuTurn_idle hm] at h
    split at h
    · exact hs.cpuStep h
    · cases h; exact State.inv_resetFrom hs _
    · cases h; exact State.inv_takeReset _ hs.memory

end Sys2Proof.Machine
end

section
/-! PROOFS. What a command of the host and every other input make of the control part, and with it O52: every step keeps the invariant. -/

namespace Sys2Proof.Machine

/-! ## Commands of the host -/

/-- The control part where the host can complete a command: between two steps, out of reset. The host may have declared a collision (log 26). -/
structure Control.Ready (c : Control) : Prop where
  coherent : c.Coherent
  quiet : c.Quiet
  noStolen : c.stolen = []
  listening : c.mode ≠ .reset

/-- The control part after a command, before its collision is forgotten: a trace is one that TRACE1 has just started. -/
structure Control.AfterCommand (c : Control) : Prop where
  boundary : Control.AtBoundary false { c with collision := false }
  restarted : c.trace = true → c.mode = .run

theorem Control.Ready.afterCommand {c : Control} (h : c.Ready) : c.AfterCommand :=
  ⟨⟨⟨h.coherent.active, h.coherent.enabled, h.coherent.asleep, h.coherent.awake, h.coherent.blocks⟩,
    fun _ => ⟨h.quiet.noForced, h.quiet.noBackground, h.quiet.noTrace⟩, by simp [h.quiet.noTrace], fun _ => h.noStolen, rfl⟩, by simp [h.quiet.noTrace]⟩

theorem State.Inv.afterCommand {s : State} (h : s.Inv) : s.Holds Control.AfterCommand := by
  obtain ⟨hm, hc, hq, hs, -⟩ := s.inv_iff.1 h
  exact ⟨hm, ⟨⟨hc.active, hc.enabled, hc.asleep, hc.awake, hc.blocks⟩, fun _ => ⟨hq.noForced, hq.noBackground, hq.noTrace⟩, by simp [hq.noTrace], hs, rfl⟩,
    by simp [hq.noTrace]⟩

/-- A command that changes nothing of the control part, or resets. -/
theorem Access.finish_afterCommand {x : Access Unit} {t : State} (hx : x.state.Holds Control.Ready) (h : x.finish = .next t) : t.Holds Control.AfterCommand := by
  rcases Access.finish_holds hx h with h | h
  · exact h.imp Control.Ready.afterCommand
  · exact h.afterCommand

/-- A command that needs active background mode keeps what its own update keeps. -/
theorem State.Holds.inBackground {Q : Control → Prop} {s t : State} {n : Nat} {f : State → State} (hs : s.Holds Q)
    (hf : s.bdcscr.bdmact = true → (f s).Holds Q) (h : inBackground n f s = .next t) : t.Holds Q := by
  unfold Machine.inBackground at h
  split at h
  · cases h; exact hf ‹_›
  · split at h <;> cases h <;> exact hs

theorem State.Holds.bdcPhysRead {Q : Control → Prop} {s : State} (h : s.Holds Q) (p : Addr) : (bdcPhysRead p s).state.Holds Q := by
  unfold Machine.bdcPhysRead
  split <;> exact h

theorem State.Holds.bdcPhysWrite {Q : Control → Prop} {s : State} (h : s.Holds Q) (p : Addr) (v : Byte) : (bdcPhysWrite p v s).state.Holds Q := by
  unfold Machine.bdcPhysWrite
  split
  · exact h
  · exact h.store p v

/-- In active background mode a block command may be open (47_bdc_commands R310, R311). -/
theorem Control.Coherent.setSerial {c : Control} (h : c.Coherent) {r : Serial} (hr : c.mode = .background ∨ r.noBlockAccess = true) :
    ({ c with serial := r } : Control).Coherent :=
  ⟨h.active, h.enabled, h.asleep, h.awake, fun hm => hr.resolve_left hm⟩

theorem Control.Ready.setSerial {c : Control} (h : c.Ready) {r : Serial} (hr : c.mode = .background ∨ r.noBlockAccess = true) :
    ({ c with serial := r } : Control).Ready :=
  ⟨h.coherent.setSerial hr, ⟨h.quiet.noForced, h.quiet.noBackground, h.quiet.noTrace⟩, h.noStolen, h.listening⟩

theorem Control.Settled.setSerial {turn : Bool} {c : Control} (h : c.Settled turn) {r : Serial} (hr : c.mode = .background ∨ r.noBlockAccess = true) :
    ({ c with serial := r } : Control).Settled turn :=
  ⟨h.coherent.setSerial hr, ⟨h.quiet.noForced, h.quiet.noBackground, h.quiet.noTrace⟩, h.noStolen, h.noCollision⟩

/-- One byte of a READ_BLOCK changes nothing of the control part but the serial state. -/
theorem State.Holds.blockRead {Q : Control → Prop} {s : State} (h : s.Holds Q) (hQ : ∀ c r, Q c → Q { c with serial := r }) (p : Addr) :
    (blockRead p s).state.Holds Q :=
  Access.bind_state (h.bdcPhysRead p) fun _ _ hu => ⟨hu.memory, hQ _ _ hu.control⟩

theorem State.Holds.blockWrite {Q : Control → Prop} {s : State} (h : s.Holds Q) (hQ : ∀ c r, Q c → Q { c with serial := r }) (p : Addr) (v : Byte) :
    (blockWrite p v s).state.Holds Q :=
  Access.bind_state (h.bdcPhysWrite p v) fun _ _ hu => ⟨hu.memory, hQ _ _ hu.control⟩

/-- GO leaves active background mode for run mode; no block may be open then (47_bdc_commands R308). -/
theorem State.Holds.leaveBackground {s : State} (h : s.Holds Control.Ready) (hb : s.serial.noBlockAccess = true) : s.leaveBackground.Holds Control.Ready :=
  ⟨h.memory, ⟨rfl, nofun, nofun, fun _ => rfl, fun _ => hb⟩, ⟨h.control.quiet.noForced, h.control.quiet.noBackground, h.control.quiet.noTrace⟩, h.control.noStolen, nofun⟩

/-- TRACE1 does the same and notes the trace; ENBDM is 1, since it was active background mode that it left (47_bdc_commands R309). -/
theorem State.Holds.trace1 {s : State} (h : s.Holds Control.Ready) (ha : s.bdcscr.bdmact = true) (hb : s.serial.noBlockAccess = true) :
    ({ s.leaveBackground with trace := true } : State).Holds Control.AfterCommand := by
  have hmode : s.mode = .background := h.control.coherent.bdmact_iff.1 ha
  exact ⟨h.memory, ⟨⟨rfl, nofun, nofun, fun _ => rfl, fun _ => hb⟩, by simp [State.control], fun _ => h.control.coherent.enabled hmode, fun _ => h.control.noStolen, rfl⟩, fun _ => rfl⟩

/-- BACKGROUND enters its mode from wait and stop at once, where ENBDM is 1, and is pending in run mode (47_bdc_commands R293). -/
theorem State.Holds.requestBackground_afterCommand {s : State} (h : s.Holds Control.Ready) : s.requestBackground.Holds Control.AfterCommand := by
  have h0 := h.imp Control.Ready.afterCommand
  unfold State.requestBackground
  split
  · exact h0
  rename_i henabled
  simp only [Bool.or_eq_true, Bool.not_eq_true', not_or, Bool.not_eq_true, Bool.not_eq_false] at henabled
  split
  · exact ⟨h.memory, ⟨⟨rfl, fun _ => henabled.1, nofun, nofun, fun hm => absurd rfl hm⟩, fun _ => ⟨rfl, rfl, rfl⟩, nofun, fun _ => h.control.noStolen, rfl⟩, nofun⟩
  · have hmode : s.mode ≠ .background := fun hm => Bool.false_ne_true (henabled.2.symm.trans (h.control.coherent.bdmact_iff.2 hm))
    obtain ⟨hwf, hb, hr⟩ := h0
    exact ⟨hwf, ⟨⟨hb.coherent.active, hb.coherent.enabled, hb.coherent.asleep, hb.coherent.awake, hb.coherent.blocks⟩,
      fun hp => (hp.elim hmode h.control.listening).elim, hb.traced, hb.noStolen, rfl⟩, hr⟩

/-- In active background mode WRITE_CONTROL keeps ENBDM (47_bdc_commands R286). -/
theorem State.Holds.bdcControl {s : State} (h : s.Holds Control.Ready) (cc : Byte) : (bdcControl cc s).Holds Control.Ready := by
  refine ⟨h.memory, ⟨h.control.coherent.active, fun hm => ?_, h.control.coherent.asleep, h.control.coherent.awake, h.control.coherent.blocks⟩,
    ⟨h.control.quiet.noForced, h.control.quiet.noBackground, h.control.quiet.noTrace⟩, h.control.noStolen, h.control.listening⟩
  exact (if_pos (h.control.coherent.bdmact_iff.2 hm)).trans (h.control.coherent.enabled hm)

/-- Everything a command leaves, at any time at which the host can complete it. -/
theorem exec_afterCommand {i : Instr} (hc : isCommand i = true) {s t : State} (hs : s.Holds Control.Ready)
    (hb : i = .go ∨ i = .trace1 → s.serial.noBlockAccess = true) (h : exec i s = .next t) : t.Holds Control.AfterCommand := by
  have h0 : s.Holds Control.AfterCommand := hs.imp Control.Ready.afterCommand
  have hactive (ha : s.bdcscr.bdmact = true) : s.Holds fun c => c.Ready ∧ c.mode = .background := hs.imp fun hc => ⟨hc, hc.coherent.bdmact_iff.1 ha⟩
  have hserial (c : Control) (r : Serial) (hc : c.Ready ∧ c.mode = .background) : ({ c with serial := r } : Control).Ready ∧ c.mode = .background :=
    ⟨hc.1.setSerial (.inl hc.2), hc.2⟩
  unfold exec at h
  cases i with
  | bdcReset => cases h; exact (State.inv_takeReset _ hs.memory).afterCommand
  | background => cases h; exact hs.requestBackground_afterCommand
  | writeControl cc => cases h; exact (hs.bdcControl cc).imp Control.Ready.afterCommand
  | readStatus | readBkpt | writeBkpt => cases h; exact h0
  | readByte | readByteWs => exact Access.finish_afterCommand (hs.bdcReadByte _ _) h
  | writeByte | writeByteWs => exact Access.finish_afterCommand (hs.bdcWriteByte _ _ _) h
  | go => exact h0.inBackground (fun _ => (hs.leaveBackground (hb (.inl rfl))).imp Control.Ready.afterCommand) h
  | trace1 => exact h0.inBackground (fun ha => hs.trace1 ha (hb (.inr rfl))) h
  | readA | writeA | readCcrPc | writeCcrPc | readSpc | writeSpc => exact h0.inBackground (fun _ => h0) h
  | sync => cases h; exact State.Holds.imp ⟨hs.memory, hs.control.setSerial (.inr rfl)⟩ Control.Ready.afterCommand
  | readBlock =>
    replace h : execReadBlock _ s = .next t := h
    unfold execReadBlock at h
    split at h
    · exact Access.finish_afterCommand (((hactive ‹_›).blockRead hserial _).imp And.left) h
    · cases h; exact State.Holds.imp ⟨hs.memory, hs.control.setSerial (.inr rfl)⟩ Control.Ready.afterCommand
  | writeBlock =>
    replace h : execWriteBlock _ _ s = .next t := h
    unfold execWriteBlock at h
    split at h
    · exact Access.finish_afterCommand (((hactive ‹_›).blockWrite hserial _ _).imp And.left) h
    · cases h; exact State.Holds.imp ⟨hs.memory, hs.control.setSerial (.inr rfl)⟩ Control.Ready.afterCommand
  | _ => cases hc

/-- A declared collision is no part of what a command finds (log 26). -/
theorem Control.Ready.setCollision {c : Control} (h : c.Ready) (collision : Bool) : ({ c with collision := collision } : Control).Ready :=
  ⟨⟨h.coherent.active, h.coherent.enabled, h.coherent.asleep, h.coherent.awake, h.coherent.blocks⟩,
    ⟨h.quiet.noForced, h.quiet.noBackground, h.quiet.noTrace⟩, h.noStolen, h.listening⟩

/-- Between two steps, out of reset, the host can complete a command. -/
theorem State.Inv.ready {s : State} (h : s.Inv) (hm : s.mode ≠ .reset) : s.Holds Control.Ready :=
  (s.inv_iff.1 h).imp fun hc => ⟨hc.coherent, hc.quiet, hc.noStolen rfl, hm⟩

/-- The boundary after a command, or the instruction that a TRACE1 runs, ends with the invariant. -/
theorem State.Holds.runCommand {i : Instr} (hc : isCommand i = true) {s t : State} (hs : s.Holds Control.Ready)
    (hb : i = .go ∨ i = .trace1 → s.serial.noBlockAccess = true) (h : runCommand i s = .next t) : t.Inv := by
  obtain ⟨u, hu, h⟩ := onNext_eq_next h
  obtain ⟨hwf, hboundary, hrestarted⟩ := exec_afterCommand hc hs hb hu
  have hu' : State.Holds (Control.AtBoundary false) { u with collision := false } := ⟨hwf, hboundary⟩
  split at h
  · exact (State.inv_iff t).2 (cpuStep_settled (hu'.imp fun hc => hc.running (hrestarted ‹_›)) h)
  · cases h
    exact (State.inv_iff _).2 hu'.settle

/-- The same at the time the host chose; a reset inside a traced instruction leaves of it memory alone (60_exceptions R321). -/
theorem State.Holds.completeCommand {i : Instr} (hc : isCommand i = true) {s t : State} (hs : s.Holds Control.Ready) (hb : s.serial.noBlockAccess = true)
    (timing : Timing) (h : completeCommand i timing s = .next t) : t.Inv := by
  cases timing with
  | boundary => exact hs.runCommand hc (fun _ => hb) h
  | collide => exact State.Holds.runCommand (s := { s with collision := true }) hc ⟨hs.memory, hs.control.setCollision true⟩ (fun _ => hb) h
  | cut source stored =>
    replace h : (if i = .trace1 ∧ s.bdcscr.bdmact = true then cutTrace source stored s else Machine.runCommand i s) = .next t := h
    split at h
    · obtain ⟨u, hu, h⟩ := onNext_eq_next h
      cases h
      refine State.inv_enterReset _ ?_
      split at hu
      · exact (hs.runCommand rfl (fun _ => hb) hu).memory
      · cases hu; exact hs.memory
    · exact hs.runCommand hc (fun _ => hb) h

/-! ## Bytes of the host (47_bdc_commands R276) -/

/-- Outside a block a byte leaves the serial state outside a block, and at its start where it completes a command. -/
theorem Serial.receive_cases {r : Serial} (hr : r.noBlock = true) (b : Byte) :
    (∃ r', r.receive b = (r', none) ∧ r'.noBlockAccess = true) ∨ ∃ i, r.receive b = (.idle, some i) ∧ isCommand i = true := by
  have hdecode (code : Byte) (items : List Byte) :
      (∃ r', (Serial.idle, decodeCommand code items) = (r', none) ∧ r'.noBlockAccess = true) ∨
        ∃ i, (Serial.idle, decodeCommand code items) = (.idle, some i) ∧ isCommand i = true := by
    cases hd : decodeCommand code items with
    | none => exact .inl ⟨.idle, rfl, rfl⟩
    | some i => exact .inr ⟨i, rfl, isCommand_of_decodeCommand hd⟩
  cases r with
  | idle =>
    simp only [Serial.receive]
    split
    · exact .inl ⟨_, rfl, rfl⟩
    · exact hdecode _ _
    · exact .inl ⟨_, rfl, rfl⟩
  | receiving code items =>
    simp only [Serial.receive]
    split
    · exact hdecode _ _
    · exact .inl ⟨_, rfl, rfl⟩
  | readBlock | writeBlock | readBlockRefused | writeBlockRefused => cases hr

/-- With no reply waiting and no block open a byte belongs to a command. -/
theorem hostByte_receive {b : Byte} {timing : Timing} {s : State} (hreply : s.reply = []) (hr : s.serial.noBlock = true) :
    hostByte b timing s =
      match s.serial.receive b with
      | (r', none) => .next { s with serial := r' }
      | (r', some i) => completeCommand i timing { s with serial := r' } := by
  unfold hostByte
  rw [hreply]
  cases hs : s.serial with
  | idle | receiving => rfl
  | readBlock | writeBlock | readBlockRefused | writeBlockRefused => rw [hs] at hr; cases hr

/-- A byte of a command, which may be its last. -/
theorem State.Inv.hostByte_receive {s t : State} (hs : s.Inv) (hm : s.mode ≠ .reset) (hreply : s.reply = []) (hr : s.serial.noBlock = true) {b : Byte}
    {timing : Timing} (h : hostByte b timing s = .next t) : t.Inv := by
  rw [Machine.hostByte_receive hreply hr] at h
  rcases Serial.receive_cases hr b with ⟨r', e, hr'⟩ | ⟨i, e, hi⟩ <;> rw [e] at h
  · cases h
    exact (State.inv_iff _).2 ⟨hs.memory, (s.inv_iff.1 hs).control.setSerial (.inr hr')⟩
  · have hready : State.Holds Control.Ready { s with serial := .idle } := ⟨hs.memory, (hs.ready hm).control.setSerial (.inr rfl)⟩
    exact hready.completeCommand hi rfl timing h

/-- Eight bit times of the host, out of reset: a reply byte goes out, an open block goes on in active background mode, or the byte belongs to a command. -/
theorem State.Inv.hostByte {s t : State} (hs : s.Inv) (hm : s.mode ≠ .reset) {b : Byte} {timing : Timing} (h : hostByte b timing s = .next t) : t.Inv := by
  by_cases hblock : s.reply = [] ∧ s.serial.noBlock = true
  · obtain ⟨hreply, hr⟩ := hblock
    exact hs.hostByte_receive hm hreply hr h
  have hopen (hr : s.serial.noBlockAccess = false) : s.Holds fun c => c.Settled false ∧ c.mode = .background :=
    (s.inv_iff.1 hs).imp fun hc => ⟨hc, by_contra fun hne => Bool.false_ne_true (hr.symm.trans (hs.blocks hne))⟩
  have hserial (c : Control) (r : Serial) (hc : c.Settled false ∧ c.mode = .background) : ({ c with serial := r } : Control).Settled false ∧ c.mode = .background :=
    ⟨hc.1.setSerial (.inl hc.2), hc.2⟩
  have hfinish {x : Access Unit} (hx : x.state.Holds fun c => c.Settled false ∧ c.mode = .background) (h : x.finish = .next t) : t.Inv :=
    (Access.finish_holds hx h).elim (fun ht => (State.inv_iff t).2 (ht.imp And.left)) id
  unfold Machine.hostByte at h
  cases hreply : s.reply with
  | cons r rs =>
    rw [hreply] at h
    cases h
    exact hs.of_control rfl rfl
  | nil =>
    rw [hreply] at h
    cases hr : s.serial with
    | idle | receiving => simp [hreply, hr, Serial.noBlock] at hblock
    | readBlock p =>
      rw [hr] at h
      have hread := (hopen (by rw [hr]; rfl)).blockRead hserial p
      exact hfinish (Access.bind_state (f := fun _ u => .ok () u.delivered) hread fun _ _ hu => hu) h
    | writeBlock p =>
      rw [hr] at h
      exact hfinish ((hopen (by rw [hr]; rfl)).blockWrite hserial p b) h
    | readBlockRefused =>
      rw [hr] at h
      cases h
      exact hs.of_control rfl rfl
    | writeBlockRefused =>
      rw [hr] at h
      cases h
      exact hs

/-! ## The other inputs -/

/-- RAM after power comes on is canonical, whatever bytes the input lists (decision D26; log 20). -/
theorem Device.wf_fillRam (d : Device) {m : Memory} (hm : m.wf = true) (ram : List Host.Cell) : (d.fillRam m ram).wf = true := by
  unfold Device.fillRam
  have hram : ∀ e ∈ ram.filter d.ramByte, e.1 < addressSpace := by
    intro e he
    have hb := (List.mem_filter.1 he).2
    simp only [Device.ramByte, Bool.and_eq_true, decide_eq_true_eq] at hb
    obtain ⟨⟨⟨haddr, -⟩, -⟩, -⟩ := hb
    exact haddr
  exact List.foldlRecOn (motive := fun m => Memory.wf m = true) _ _ (Memory.wf_filter hm _) fun m hm e he => Memory.wf_write hm (hram e he) e.2

/-- The wake-up request is no part of the invariant, but where it wakes the CPU (60_exceptions R333). -/
theorem State.Inv.setWake {s : State} (hs : s.Inv) (level : Bool) : (s.setWake level).Inv := by
  have hlevel : State.Inv { s with wakeRequest := level } := hs.of_control rfl rfl
  unfold State.setWake
  split
  · exact hs
  · split
    · exact hlevel.wakeUp (Bool.and_eq_true_iff.1 ‹_›).1
    · exact hlevel

theorem State.mode_of_listening {s : State} (h : s.listening = true) : s.mode ≠ .reset := by
  intro hm
  simp [State.listening, hm] at h

theorem State.Inv.softReset {s : State} (hs : s.Inv) : s.softReset.Inv :=
  (State.inv_iff _).2 ⟨hs.memory, (s.inv_iff.1 hs).control.setSerial (.inr rfl)⟩

theorem State.Inv.event {s t : State} (hs : s.Inv) (e : Input) (h : event e s = .next t) : t.Inv := by
  cases e with
  | cpu => exact hs.cpuStep h
  | turn commands reset => exact hs.cpuTurn commands reset h
  | powerOn ram =>
    cases h
    exact State.inv_enterReset .por (s := { s with mem := s.dev.fillRam s.mem ram }) (Device.wf_fillRam s.dev hs.memory ram)
  | resetOn source => cases h; exact State.inv_resetFrom hs source
  | resetOff =>
    cases h
    split
    case isTrue hr => exact hs.leaveReset (beq_iff_eq.1 hr)
    case isFalse => exact hs
  | wake level => cases h; exact hs.setWake level
  | bkgd low => cases h; exact hs.of_control rfl rfl
  | sync =>
    replace h : (if s.listening then runCommand .sync s else .next s) = .next t := h
    split at h
    · exact (hs.ready (State.mode_of_listening ‹_›)).runCommand rfl (by simp) h
    · cases h; exact hs
  | softReset =>
    cases h
    split
    · exact hs.softReset
    · exact hs
  | byte b timing =>
    replace h : (if s.listening then Machine.hostByte b timing s else .next s) = .next t := h
    split at h
    · exact hs.hostByte (State.mode_of_listening ‹_›) h
    · cases h; exact hs

/-- Settles O52: a step is the CPU's turn or one input, and each keeps the invariant. -/
theorem stepKeepsInvariant : Obligations.StepKeepsInvariant := by
  unfold Obligations.StepKeepsInvariant
  intro s t hs h
  cases henv : s.env with
  | nil => exact hs.cpuStep (step_empty henv ▸ h)
  | cons e rest =>
    have hrest : State.Inv { s with env := rest } := hs.of_control rfl rfl
    exact hrest.event e (step_input henv ▸ h)

end Sys2Proof.Machine
end

section
/-! PROOFS. Data addresses, bytes read after a store, and program bytes fetched after a store: O9, O10 and O11. -/

namespace Sys2Proof.Machine

/-! ## Data addresses (20_memory R67, R70, R72; decision D3) -/

/-- Every address but $0E goes straight to the page or to the window (20_memory R70). -/
theorem State.resolve_direct (s : State) {a : Byte} (h : a ≠ 0x0E#8) :
    s.resolve a = if 0xC0#8 ≤ a then s.pagesel ++ a.extractLsb' 0 6 else a.setWidth 14 := by
  simp [State.resolve, h]

/-- The address $0E stands for the one in X (20_memory R67). -/
theorem State.resolve_indexed (s : State) :
    s.resolve 0x0E#8 = if 0xC0#8 ≤ s.x then s.pagesel ++ s.x.extractLsb' 0 6 else s.x.setWidth 14 := by
  simp [State.resolve]

theorem State.resolve_page (s : State) {a : Byte} (h : a ≠ 0x0E#8) (ha : a < 0xC0#8) : s.resolve a = a.setWidth 14 := by
  rw [s.resolve_direct h, if_neg (BitVec.not_le.2 ha)]

theorem State.resolve_window (s : State) {a : Byte} (ha : 0xC0#8 ≤ a) : s.resolve a = s.pagesel ++ a.extractLsb' 0 6 := by
  have h : a ≠ 0x0E#8 := by rintro rfl; exact absurd ha (by decide)
  rw [s.resolve_direct h, if_pos ha]

/-- A page of the window has 64 bytes (20_memory R70). -/
theorem toNat_page_append (page a : Byte) : (page ++ a.extractLsb' 0 6 : Addr).toNat = page.toNat * 64 + a.toNat % 64 := by
  rw [BitVec.toNat_append, BitVec.extractLsb'_toNat, ← Nat.shiftLeft_add_eq_or_of_lt (Nat.mod_lt _ (by decide))]
  simp [Nat.shiftLeft_eq]

/-- Settles O9: the two branches of `State.resolve`, once for the operand address and once for the address in X. -/
theorem dataAddressResolution : Obligations.DataAddressResolution := by
  unfold Obligations.DataAddressResolution
  intro s
  refine ⟨fun a h ha => ?page, fun a ha => ?window, fun h => ?indexed, fun h => ?loop, fun h => ?x, fun h => ?pagesel, fun p h => ?reach⟩
  case page =>
    rw [s.resolve_page h ha, BitVec.toNat_setWidth]
    exact Nat.mod_eq_of_lt (by omega)
  case window =>
    rw [s.resolve_window ha, toNat_page_append]
    have hlow : 0xC0 ≤ a.toNat := BitVec.le_def.1 ha
    omega
  case indexed => rw [s.resolve_indexed, s.resolve_direct h]
  case loop => rw [s.resolve_indexed, h]; rfl
  case x => rw [s.resolve_indexed, h]; exact ⟨rfl, h⟩
  case pagesel => rw [s.resolve_indexed, h]; exact ⟨rfl, rfl⟩
  case reach =>
    have hin : 0xC0#8 ≤ 0xC0#8 + (p.extractLsb' 0 6).setWidth 8 := by bv_omega
    rw [s.resolve_window hin, h]
    apply BitVec.eq_of_toNat_eq
    rw [toNat_page_append]
    simp
    omega

/-! ## Bytes after a store (20_memory R64, R74, R75, R83) -/

/-- The byte at the address of a store (20_memory R64, R75). -/
theorem State.byteAt_store {s : State} (hm : s.mem.wf = true) (p : Addr) (v : Byte) :
    (s.store p v).byteAt p = if s.dev.kindAt p = .ram then v else s.byteAt p := by
  by_cases h : s.dev.kindAt p = .ram
  · rw [if_pos h, State.byteAt_store_same (Memory.wf_sorted hm) v h]
  · rw [if_neg h, State.store_not_ram v h]

/-- A read of an address whose contents the core has gives its byte (20_memory R74). -/
theorem State.peek_stated {s : State} {p : Addr} (h : s.unstated p = false) : s.peek p = s.byteAt p := by
  simp [State.peek, h]

/-- It draws no free value. -/
theorem State.draws_stated {s : State} {p : Addr} (h : s.unstated p = false) : s.draws p = 0 := by
  simp [State.draws, h]

/-- Settles O10: the laws of a store, and a read that the core has the byte of. -/
theorem storeThenRead : Obligations.StoreThenRead := by
  unfold Obligations.StoreThenRead
  intro s p v hm
  refine ⟨State.byteAt_store hm p v, fun q hq => State.byteAt_store_other s v hq.symm, State.wf_store hm p v, fun hu hk => ?_⟩
  exact ⟨s.afterRead p, by rw [physRead_legal hk, State.peek_stated hu], by simp [State.draws_stated hu]⟩

/-! ## Program bytes after a store (20_memory R86; decision D7) -/

theorem State.byteAt_jumpTo (s : State) (target p : Addr) : (s.jumpTo target).byteAt p = s.byteAt p := rfl

/-- The contents of RAM are known. -/
theorem State.unstated_of_ram {s : State} {p : Addr} (h : s.dev.kindAt p = .ram) : s.unstated p = false := by
  simp [State.unstated, h]

/-- A fetch from RAM gives the byte there, unless it may be an older one (20_memory R86; log 13). -/
theorem fetch_ram {s : State} {p : Addr} (h : s.dev.kindAt p = .ram) (hs : s.stale p = false) : fetch p s = .ok (s.byteAt p) (s.afterRead p) := by
  simp [fetch, h, hs, State.peek_stated (State.unstated_of_ram h)]

/-- A fetch from RAM of a byte that may be an older one gives a free value (log 13). -/
theorem fetch_stale {s : State} {p : Addr} (h : s.dev.kindAt p = .ram) (hs : s.stale p = true) :
    fetch p s = .ok (Config.freeByte s.freeCount) { s.touch p with freeCount := s.freeCount + 1 } := by
  simp [fetch, h, hs]

/-- With no earlier store on record the byte stored may be fetched stale only inside the window (20_memory R86). -/
theorem State.stale_store {s : State} (hs : s.stores = []) {p : Addr} (v : Byte) (h : s.dev.kindAt p = .ram) :
    (s.store p v).stale p = decide ((p - s.pc).toNat < Config.prefetchDepth) := by
  simp [State.stale, State.stores_store, h, hs]

/-- Settles O11: a jump clears the record of stores; without one that record is the one store, and the window is its distance from PC. -/
theorem storeSeenAfterBranch : Obligations.StoreSeenAfterBranch := by
  unfold Obligations.StoreSeenAfterBranch
  intro s p q v hm hk
  have hram : (s.store p v).dev.kindAt p = .ram := by rwa [State.store_dev]
  have hbyte : (s.store p v).byteAt p = v := State.byteAt_store_same (Memory.wf_sorted hm) v hk
  constructor
  · have hfetch := fetch_ram (s := (s.store p v).jumpTo q) hram (State.stale_of_no_stores rfl p)
    rw [State.byteAt_jumpTo, hbyte] at hfetch
    exact ⟨_, hfetch⟩
  · intro hs
    by_cases hwin : (p - s.pc).toNat < Config.prefetchDepth
    · have hstale : (s.store p v).stale p = true := by rw [State.stale_store hs v hk]; exact decide_eq_true hwin
      exact ⟨_, _, fetch_stale hram hstale, .inr hwin⟩
    · have hfresh : (s.store p v).stale p = false := by rw [State.stale_store hs v hk]; exact decide_eq_false hwin
      exact ⟨_, _, fetch_ram hram hfresh, .inl hbyte⟩

end Sys2Proof.Machine
end

section
/-! PROOFS. What a step can do to memory: everything but a power-on goes through `State.store`. With it O54. -/

namespace Sys2Proof.Machine

/-! ## Operations that touch neither memory nor the device -/

/-- Memory and the parameters of the device are those of `s`; X and PAGESEL may differ. -/
structure State.SameMemory (s t : State) : Prop where
  mem : t.mem = s.mem
  dev : t.dev = s.dev

theorem State.SameMemory.trans {s t u : State} (h : s.SameMemory t) (h' : t.SameMemory u) : s.SameMemory u := ⟨h'.mem.trans h.mem, h'.dev.trans h.dev⟩

theorem State.sameMemory_takeReset (cause : ResetCause) (s : State) : s.SameMemory (takeReset cause s) := ⟨by simp [takeReset], by simp [takeReset]⟩

theorem State.sameMemory_stopForDebug (s : State) : s.SameMemory s.stopForDebug := by
  rcases s.stopForDebug_cases with ⟨-, e⟩ | ⟨-, e⟩ <;> rw [e]
  · exact ⟨rfl, rfl⟩
  · exact s.sameMemory_takeReset _

theorem State.sameMemory_debugStop {s t : State} (h : s.debugStop = some t) : s.SameMemory t := by
  rcases s.debugStop_cases with e | ⟨-, e⟩ | ⟨-, e⟩ <;> rw [e] at h <;> cases h
  · exact s.sameMemory_stopForDebug
  · exact ⟨rfl, rfl⟩

/-- In background mode and in reset the CPU does nothing; in the other modes it is on its way or waits (10_state R39). -/
theorem State.parked_or_moving (s : State) : (s.mode = .background ∨ s.mode = .reset) ∨ s.mode = .run ∨ s.asleep = true := by
  rw [s.asleep_iff]
  cases s.mode <;> simp

/-- The boundary after an instruction (60_exceptions R335). -/
theorem State.sameMemory_settle (s : State) : s.SameMemory s.settle := by
  rcases s.parked_or_moving with hparked | hmoving
  · rw [State.settle_parked hparked]
    exact ⟨rfl, rfl⟩
  cases ht : s.trace with
  | true =>
    rw [State.settle_traced hmoving ht]
    cases hd : s.clearWs.debugStop with
    | some t =>
      obtain ⟨hmem, hdev⟩ := State.sameMemory_debugStop hd
      exact ⟨hmem, hdev⟩
    | none => exact ⟨rfl, rfl⟩
  | false =>
    rw [State.settle_moving hmoving ht]
    cases hd : s.debugStop with
    | some t => exact State.sameMemory_debugStop hd
    | none => exact ⟨rfl, rfl⟩

theorem State.SameMemory.branchIf {s t : State} (h : s.SameMemory t) (taken : Bool) (rr : Byte) : s.SameMemory (t.branchIf taken rr) := by
  unfold State.branchIf
  split <;> exact ⟨h.mem, h.dev⟩

theorem State.sameMemory_sleep (m : Mode) (s : State) : s.SameMemory (s.sleep m) := by
  unfold State.sleep
  split <;> exact ⟨rfl, rfl⟩

/-- The accesses of an instruction are made before its last operation. -/
theorem State.sameMemory_lastOperation (j : Instr) (v : Byte) (u : State) : u.SameMemory (lastOperation j v u) := by
  cases j with
  | wait | stop => exact u.sameMemory_sleep _
  | bgnd => exact u.sameMemory_stopForDebug
  | brset | brclr | bra | bcc | bcs | bne | beq | cbeqDir | cbeqa | dbnzDir | dbnza => exact State.SameMemory.branchIf (by exact ⟨rfl, rfl⟩) _ _
  | _ => exact ⟨rfl, rfl⟩

theorem State.sameMemory_requestBackground (s : State) : s.SameMemory s.requestBackground := by
  unfold State.requestBackground
  split
  · exact ⟨rfl, rfl⟩
  · split <;> exact ⟨rfl, rfl⟩

theorem State.sameMemory_resetFrom (source : ResetSource) (s : State) : s.SameMemory (s.resetFrom source) := by
  unfold State.resetFrom
  split <;> exact ⟨rfl, rfl⟩

theorem State.sameMemory_endTurn (reset : Option TurnReset) (s : State) : s.SameMemory (s.endTurn reset) := by
  cases reset with
  | none => exact ⟨rfl, rfl⟩
  | some r =>
    cases r with
    | source => exact ⟨rfl, rfl⟩
    | bdcReset => exact s.sameMemory_takeReset _

theorem State.sameMemory_setWake (level : Bool) (s : State) : s.SameMemory (s.setWake level) := by
  unfold State.setWake
  split
  · exact ⟨rfl, rfl⟩
  · split <;> exact ⟨rfl, rfl⟩

theorem sameMemory_fetch (p : Addr) (s : State) : s.SameMemory (fetch p s).state := by
  rcases fetch_cases p s with ⟨-, e⟩ | ⟨-, v, n, e⟩ <;> rw [e] <;> exact ⟨rfl, rfl⟩

/-- The fetches of an instruction, one after the other (00_scope R18). -/
theorem sameMemory_fetchInstr (s : State) : s.SameMemory (fetchInstr s).state := by
  have hfetch {u : State} (p : Addr) (hu : s.SameMemory u) : s.SameMemory (fetch p u).state := hu.trans (sameMemory_fetch p u)
  unfold fetchInstr
  refine Access.bind_state (hfetch _ ⟨rfl, rfl⟩) fun op s1 h1 => ?_
  split
  · exact h1
  · refine Access.bind_state (hfetch _ h1) fun b1 s2 h2 => ?_
    split
    · exact h2
    · exact Access.bind_state (hfetch _ h2) fun _ _ h3 => h3

/-- READ_BYTE (47_bdc_commands R287). -/
theorem sameMemory_bdcReadByte (p : Addr) (ws : Bool) (s : State) : s.SameMemory (bdcReadByte p ws s).state := by
  refine Access.bind_state ?_ fun _ _ hu => ⟨hu.mem, hu.dev⟩
  rcases bdcRead_cases p s with ⟨-, e⟩ | ⟨-, -, e⟩ | ⟨-, -, e⟩ <;> rw [e] <;> exact ⟨rfl, rfl⟩

/-- One byte of a READ_BLOCK (47_bdc_commands R310). -/
theorem sameMemory_blockRead (p : Addr) (s : State) : s.SameMemory (blockRead p s).state := by
  refine Access.bind_state ?_ fun _ _ hu => ⟨hu.mem, hu.dev⟩
  unfold bdcPhysRead
  split <;> exact ⟨rfl, rfl⟩

/-! ## Properties of memory that every store keeps -/

/-- A property of memory and the device, of the state that has them. -/
def State.MemoryHas (Q : Memory → Device → Prop) (s : State) : Prop := Q s.mem s.dev

theorem State.MemoryHas.of_same {Q : Memory → Device → Prop} {s t : State} (hs : s.MemoryHas Q) (h : s.SameMemory t) : t.MemoryHas Q := by
  unfold State.MemoryHas
  rw [h.mem, h.dev]
  exact hs

/-- An access of the host, or an illegal address and the reset it brings (60_exceptions R325). -/
theorem Access.finish_memoryHas {Q : Memory → Device → Prop} {x : Access Unit} {t : State} (hx : x.state.MemoryHas Q) (h : x.finish = .next t) : t.MemoryHas Q := by
  cases x with
  | ok v u => cases h; exact hx
  | abort cause u => cases h; exact hx.of_same (u.sameMemory_takeReset cause)

/-- A command that needs active background mode, elsewhere one that only owes a reply (47_bdc_commands R281). -/
theorem State.MemoryHas.inBackground {Q : Memory → Device → Prop} {n : Nat} {f : State → State} {s t : State} (hs : s.MemoryHas Q) (hf : s.SameMemory (f s))
    (h : inBackground n f s = .next t) : t.MemoryHas Q := by
  unfold Machine.inBackground at h
  split at h
  · cases h; exact hs.of_same hf
  · split at h <;> cases h <;> exact hs

/-- A property of memory and the device that no write to RAM destroys, and no contents of RAM after power-on (20_memory R64; decision D26). -/
structure KeptByStores (Q : Memory → Device → Prop) : Prop where
  write : ∀ {m : Memory} {d : Device} {p : Addr} (v : Byte), d.kindAt p = .ram → Q m d → Q (m.write p.toNat v) d
  fillRam : ∀ {m : Memory} {d : Device} (ram : List Host.Cell), Q m d → Q (d.fillRam m ram) d

namespace KeptByStores

variable {Q : Memory → Device → Prop} (hQ : KeptByStores Q) {s t : State}
include hQ

/-- X and PAGESEL are no part of memory, and no other kind of address takes a byte (20_memory R64). -/
theorem store (hs : s.MemoryHas Q) (p : Addr) (v : Byte) : (s.store p v).MemoryHas Q := by
  unfold State.store
  split
  · split
    · exact hs
    · split
      · exact hs
      · exact hQ.write v ‹_› hs
  · exact hs

/-! ### Writes of the host (47_bdc_commands R289, R311) -/

theorem bdcWriteByte (hs : s.MemoryHas Q) (p : Addr) (v : Byte) (ws : Bool) : (bdcWriteByte p v ws s).state.MemoryHas Q := by
  refine Access.bind_state ?_ fun _ _ hu => by cases ws <;> exact hu
  rcases bdcWrite_cases p v s with ⟨-, e⟩ | ⟨-, -, e⟩ | ⟨-, -, e⟩ <;> rw [e]
  · exact hs
  · exact hs
  · exact hQ.store hs p v

theorem blockWrite (hs : s.MemoryHas Q) (p : Addr) (v : Byte) : (blockWrite p v s).state.MemoryHas Q := by
  refine Access.bind_state ?_ fun _ _ hu => hu
  unfold bdcPhysWrite
  split
  · exact hs
  · exact hQ.store hs p v

/-! ### Instructions of the CPU -/

theorem hostCommand (hs : s.MemoryHas Q) (i : Instr) : (hostCommand i s).state.MemoryHas Q := by
  cases i with
  | background => exact hs.of_same s.sameMemory_requestBackground
  | readByte | readByteWs => exact hs.of_same (sameMemory_bdcReadByte _ _ s)
  | writeByte | writeByteWs => exact hQ.bdcWriteByte hs _ _ _
  | _ => exact hs

theorem performAll (hs : s.MemoryHas Q) (is : List Instr) : (performAll is s).state.MemoryHas Q := by
  induction is generalizing s with
  | nil => exact hs
  | cons i is ih => exact Access.bind_state (hQ.hostCommand hs i) fun _ t ht => ih (s := t.delivered) ht

theorem keptByAccesses : KeptByAccesses (State.MemoryHas Q) where
  advance _ h := h
  read _ h := h
  write {s} p v h := hQ.store (s := s.touch p) h p v
  stolen {s} h := hQ.performAll (s := { s with stolen := [] }) h s.stolen

/-- An instruction of the CPU stores by its accesses and by commands of the host between them (20_memory R79). -/
theorem exec_cpu {i : Instr} (hc : isCommand i = false) (hs : s.MemoryHas Q) (h : exec i s = .next t) : t.MemoryHas Q := by
  rcases exec_completes hQ.keptByAccesses hc hs h with ⟨cause, u, hu, rfl⟩ | ⟨v, u, hu, rfl⟩
  · exact hu.of_same (u.sameMemory_takeReset cause)
  · exact hu.of_same (u.sameMemory_lastOperation _ v)

theorem instruction (hs : s.MemoryHas Q) (h : instruction s = .next t) : t.MemoryHas Q := by
  have hf : (fetchInstr s).state.MemoryHas Q := hs.of_same (sameMemory_fetchInstr s)
  unfold Machine.instruction at h
  cases hi : fetchInstr s with
  | abort cause u =>
    rw [hi] at hf h
    cases h
    exact hf.of_same (u.sameMemory_takeReset cause)
  | ok i u =>
    obtain ⟨op, b1, b2, rfl⟩ := fetchInstr_decodes hi
    rw [hi] at hf h
    exact hQ.exec_cpu (s := { u with afterSleep := false }) (isCommand_decodeOp op b1 b2) hf h

/-! ### Turns of the CPU -/

theorem cpuStep (hs : s.MemoryHas Q) (h : cpuStep s = .next t) : t.MemoryHas Q := by
  rcases s.parked_or_moving with hp | hm | ha
  · rw [cpuStep_parked hp] at h
    cases h
    exact hs
  case inr.inr =>
    rw [cpuStep_asleep ha] at h
    cases h
    split <;> exact hs
  have htag : s.tagOpcode.MemoryHas Q := hs
  rcases cpuStep_run hm with ⟨u, hu, e⟩ | ⟨-, e⟩ <;> rw [e] at h
  · cases h
    exact htag.of_same (State.sameMemory_debugStop hu)
  · obtain ⟨u, hu, h⟩ := onNext_eq_next h
    cases h
    exact (hQ.instruction htag hu).of_same u.sameMemory_settle

/-- The CPU up to a reset inside its turn (60_exceptions R321). -/
theorem cpuToBoundary (hs : s.MemoryHas Q) (h : cpuToBoundary s = .next t) : t.MemoryHas Q := by
  unfold Machine.cpuToBoundary at h
  split at h
  · cases h; exact hs
  · exact hQ.instruction (s := s.tagOpcode) hs h

theorem cpuTurn (hs : s.MemoryHas Q) (commands : List Instr) (reset : Option TurnReset) (h : cpuTurn commands reset s = .next t) : t.MemoryHas Q := by
  by_cases hm : s.mode = .run
  · rw [cpuTurn_run hm] at h
    obtain ⟨u, hu, h⟩ := onNext_eq_next h
    cases h
    refine State.MemoryHas.of_same ?_ (u.sameMemory_endTurn _)
    generalize (if s.takesCommands then commands else []) = waiting at hu
    have hwaiting : State.MemoryHas Q { s with stolen := waiting } := hs
    split at hu
    · exact hQ.cpuToBoundary hwaiting hu
    · exact hQ.cpuStep hwaiting hu
  · rw [cpuTurn_idle hm] at h
    split at h
    · exact hQ.cpuStep hs h
    · cases h; exact hs.of_same (s.sameMemory_resetFrom _)
    · cases h; exact hs.of_same (s.sameMemory_takeReset _)

/-! ### Commands and bytes of the host -/

theorem exec_command {i : Instr} (hc : isCommand i = true) (hs : s.MemoryHas Q) (h : exec i s = .next t) : t.MemoryHas Q := by
  unfold exec at h
  cases i with
  | bdcReset => cases h; exact hs.of_same (s.sameMemory_takeReset _)
  | background => cases h; exact hs.of_same s.sameMemory_requestBackground
  | writeControl | readStatus | readBkpt | writeBkpt | sync => cases h; exact hs
  | readByte | readByteWs => exact Access.finish_memoryHas (hs.of_same (sameMemory_bdcReadByte _ _ s)) h
  | writeByte | writeByteWs => exact Access.finish_memoryHas (hQ.bdcWriteByte hs _ _ _) h
  | go | trace1 | readA | writeA | readCcrPc | writeCcrPc | readSpc | writeSpc => exact hs.inBackground (by exact ⟨rfl, rfl⟩) h
  | readBlock =>
    replace h : execReadBlock _ s = .next t := h
    unfold execReadBlock at h
    split at h
    · exact Access.finish_memoryHas (hs.of_same (sameMemory_blockRead _ s)) h
    · cases h; exact hs
  | writeBlock =>
    replace h : execWriteBlock _ _ s = .next t := h
    unfold execWriteBlock at h
    split at h
    · exact Access.finish_memoryHas (hQ.blockWrite hs _ _) h
    · cases h; exact hs
  | _ => cases hc

theorem runCommand {i : Instr} (hc : isCommand i = true) (hs : s.MemoryHas Q) (h : runCommand i s = .next t) : t.MemoryHas Q := by
  obtain ⟨u, hu, h⟩ := onNext_eq_next h
  have hexec : u.MemoryHas Q := hQ.exec_command hc hs hu
  have hu' : State.MemoryHas Q { u with collision := false } := hexec
  split at h
  · exact hQ.cpuStep hu' h
  · cases h; exact hu'.of_same (State.sameMemory_settle _)

theorem completeCommand {i : Instr} (hc : isCommand i = true) (timing : Timing) (hs : s.MemoryHas Q) (h : completeCommand i timing s = .next t) : t.MemoryHas Q := by
  cases timing with
  | boundary => exact hQ.runCommand hc hs h
  | collide => exact hQ.runCommand (s := { s with collision := true }) hc hs h
  | cut source stored =>
    replace h : (if i = .trace1 ∧ s.bdcscr.bdmact = true then cutTrace source stored s else Machine.runCommand i s) = .next t := h
    split at h
    · obtain ⟨u, hu, h⟩ := onNext_eq_next h
      cases h
      show u.MemoryHas Q
      split at hu
      · exact hQ.runCommand rfl hs hu
      · cases hu; exact hs
    · exact hQ.runCommand hc hs h

/-- A byte of the host goes out, belongs to a block, or belongs to a command (47_bdc_commands R276). -/
theorem hostByte {b : Byte} {timing : Timing} (hs : s.MemoryHas Q) (h : hostByte b timing s = .next t) : t.MemoryHas Q := by
  have hserial (r : Serial) : State.MemoryHas Q { s with serial := r } := hs
  by_cases hblock : s.reply = [] ∧ s.serial.noBlock = true
  · obtain ⟨hreply, hr⟩ := hblock
    rw [hostByte_receive hreply hr] at h
    rcases Serial.receive_cases hr b with ⟨r', e, -⟩ | ⟨i, e, hi⟩ <;> rw [e] at h
    · cases h; exact hserial r'
    · exact hQ.completeCommand hi timing (hserial .idle) h
  unfold Machine.hostByte at h
  cases hreply : s.reply with
  | cons r rs =>
    rw [hreply] at h
    cases h
    exact hs
  | nil =>
    rw [hreply] at h
    cases hr : s.serial with
    | idle | receiving => simp [hreply, hr, Serial.noBlock] at hblock
    | readBlock p =>
      rw [hr] at h
      exact Access.finish_memoryHas (Access.bind_state (f := fun _ u => .ok () u.delivered) (hs.of_same (sameMemory_blockRead p s)) fun _ _ hu => hu) h
    | writeBlock p => rw [hr] at h; exact Access.finish_memoryHas (hQ.blockWrite hs p b) h
    | readBlockRefused => rw [hr] at h; cases h; exact hs
    | writeBlockRefused => rw [hr] at h; cases h; exact hs

/-! ### Steps -/

theorem event (hs : s.MemoryHas Q) (e : Input) (h : event e s = .next t) : t.MemoryHas Q := by
  cases e with
  | cpu => exact hQ.cpuStep hs h
  | turn commands reset => exact hQ.cpuTurn hs commands reset h
  | powerOn ram => cases h; exact hQ.fillRam ram hs
  | resetOn source => cases h; exact hs.of_same (s.sameMemory_resetFrom source)
  | resetOff =>
    cases h
    split
    · exact hs.of_same ⟨s.leaveReset_mem, s.leaveReset_dev⟩
    · exact hs
  | wake level => cases h; exact hs.of_same (s.sameMemory_setWake level)
  | bkgd low => cases h; exact hs
  | sync =>
    replace h : (if s.listening then Machine.runCommand .sync s else .next s) = .next t := h
    split at h
    · exact hQ.runCommand rfl hs h
    · cases h; exact hs
  | softReset =>
    cases h
    split <;> exact hs
  | byte b timing =>
    replace h : (if s.listening then Machine.hostByte b timing s else .next s) = .next t := h
    split at h
    · exact hQ.hostByte hs h
    · cases h; exact hs

/-- What stores and a power-on keep, every step keeps. -/
theorem step (hs : s.MemoryHas Q) (h : step s = .next t) : t.MemoryHas Q := by
  cases henv : s.env with
  | nil => exact hQ.cpuStep hs (step_empty henv ▸ h)
  | cons e rest => exact hQ.event (s := { s with env := rest }) hs e ((step_input henv).symm.trans h)

end KeptByStores

/-! ## Flash (20_memory R64; decision D14) -/

/-- The device is `d`, and flash has the bytes of `m`. -/
def FlashOf (d : Device) (m : Memory) (m' : Memory) (d' : Device) : Prop := d' = d ∧ ∀ p : Addr, d.kindAt p = .flash → m'.read p.toNat = m.read p.toNat

/-- X and PAGESEL are no flash. -/
theorem State.byteAt_flash {s : State} {p : Addr} (h : s.dev.kindAt p = .flash) : s.byteAt p = s.mem.read p.toNat := by
  unfold Device.kindAt at h
  split at h
  · cases h
  · rename_i hp
    rw [not_or] at hp
    rw [State.byteAt, if_neg hp.1, if_neg hp.2]

/-- Leaving out entries of other addresses changes no byte of an address. -/
theorem Memory.read_filter {m : Memory} {f : Host.Cell → Bool} {p : Nat} (h : ∀ c : Host.Cell, c.1 = p → f c = true) : Memory.read (m.filter f) p = m.read p := by
  induction m with
  | nil => rfl
  | cons c m ih =>
    by_cases hf : f c = true
    · rw [List.filter_cons_of_pos hf, Memory.read, Memory.read, ih]
    · rw [List.filter_cons_of_neg hf, Memory.read, if_neg fun hc => hf (h c hc), ih]

/-- A power-on gives bytes to RAM alone (70_reset_and_hazards R374; decision D26). -/
theorem Device.read_fillRam {d : Device} {p : Addr} (h : d.kindAt p ≠ .ram) (m : Memory) (ram : List Host.Cell) :
    (d.fillRam m ram).read p.toNat = m.read p.toNat := by
  unfold Device.fillRam
  refine List.foldlRecOn (motive := fun m' => Memory.read m' p.toNat = m.read p.toNat) _ _ ?_ fun m' hm' e he => ?_
  · exact Memory.read_filter fun c hc => by simp [hc, h]
  · have hram : d.ramByte e = true := (List.mem_filter.1 he).2
    have hne : e.1 ≠ p.toNat := by
      intro hc
      simp [Device.ramByte, hc, h] at hram
    rw [Memory.read_write_other m' e.2 hne, hm']

theorem FlashOf.keptByStores (d : Device) (m : Memory) : KeptByStores (FlashOf d m) where
  write {m' _ p} v hram h := by
    obtain ⟨rfl, hflash⟩ := h
    refine ⟨rfl, fun q hq => ?_⟩
    have hne : p.toNat ≠ q.toNat := by
      intro e
      rw [BitVec.eq_of_toNat_eq e, hq] at hram
      cases hram
    rw [Memory.read_write_other m' v hne, hflash q hq]
  fillRam ram h := by
    obtain ⟨rfl, hflash⟩ := h
    exact ⟨rfl, fun p hp => (Device.read_fillRam (by simp [hp]) _ ram).trans (hflash p hp)⟩

/-- Settles O54: flash is kept by stores and by a power-on, and so by every step. -/
theorem flashNeverChanges : Obligations.FlashNeverChanges := by
  unfold Obligations.FlashNeverChanges
  intro s t _ h
  obtain ⟨hdev, hflash⟩ : t.MemoryHas (FlashOf s.dev s.mem) :=
    (FlashOf.keptByStores s.dev s.mem).step (s := s) ⟨rfl, fun _ _ => rfl⟩ h
  refine ⟨hdev, fun p hp => ?_⟩
  rw [State.byteAt_flash (hdev ▸ hp), State.byteAt_flash hp, hflash p hp]

end Sys2Proof.Machine
end

section
/-! PROOFS. Accesses of the host that fall between the read and the write of an instruction: O16. -/

namespace Sys2Proof.Machine

/-! ## Accesses of the host, one by one (47_bdc_commands R287–R290, R295) -/

/-- The state after one access that completes, without WSF and the reply. -/
def HostAccess.after (h : HostAccess) (s : State) : State :=
  match h.value with
  | none => { s with freeCount := s.freeCount + s.draws h.address }
  | some v => s.store h.address v

/-- The bytes the host gets for it. -/
def HostAccess.reply (h : HostAccess) (s : State) : List Byte :=
  (if h.ws then [({ s.bdcscr with wsf := false } : Bdcscr).toByte] else []) ++
    match h.value with
    | none => [s.peek h.address]
    | some _ => []

theorem HostAccess.sent_after (h : HostAccess) (s : State) : (h.after s).sent = s.sent := by
  unfold HostAccess.after
  split
  · rfl
  · exact s.store_sent _ _

/-- The accesses one after the other. -/
theorem hostAccesses_cons (h : HostAccess) (hs : List HostAccess) (s : State) :
    State.hostAccesses (h :: hs) s = ((State.hostAccesses hs (h.after s)).1, h.reply s ++ (State.hostAccesses hs (h.after s)).2) := by
  obtain ⟨p, value, ws⟩ := h
  cases value <;> simp [State.hostAccesses, HostAccess.after, HostAccess.reply]

/-- What a store and the drawing of a free value keep, the accesses of the host keep. -/
theorem hostAccesses_keeps {P : State → Prop} (hdraw : ∀ (s : State) (n : Nat), P s → P { s with freeCount := n })
    (hstore : ∀ (s : State) (p : Addr) (v : Byte), P s → P (s.store p v)) (hs : List HostAccess) {s : State} (h : P s) : P (State.hostAccesses hs s).1 := by
  induction hs generalizing s with
  | nil => exact h
  | cons a hs ih =>
    rw [hostAccesses_cons]
    refine ih ?_
    unfold HostAccess.after
    split
    · exact hdraw s _ h
    · exact hstore s _ _ h

theorem wf_hostAccesses (hs : List HostAccess) {s : State} (h : s.mem.wf = true) : (State.hostAccesses hs s).1.mem.wf = true :=
  hostAccesses_keeps (P := fun u => u.mem.wf = true) (fun _ _ hu => hu) (fun _ p v hu => State.wf_store hu p v) hs h

/-- The host changes RAM, X and PAGESEL alone (20_memory R64). -/
theorem byteAt_hostAccesses_not_ram (hs : List HostAccess) {s : State} {p : Addr} (h : s.dev.kindAt p ≠ .ram) :
    (State.hostAccesses hs s).1.byteAt p = s.byteAt p := by
  refine (hostAccesses_keeps (P := fun u => u.dev = s.dev ∧ u.byteAt p = s.byteAt p) (fun _ _ hu => hu) (fun u q v hu => ?_) hs ⟨rfl, rfl⟩).2
  obtain ⟨hdev, hbyte⟩ := hu
  refine ⟨(u.store_dev q v).trans hdev, Eq.trans ?_ hbyte⟩
  by_cases hq : q = p
  · rw [hq, State.store_not_ram v (by rwa [hdev])]
  · exact u.byteAt_store_other v hq

/-! ## States that are alike to the host -/

/-- What the accesses of the host read is the same in `s` and `t`: the bytes, the map, the free values to come and the status but for WSF. -/
structure State.AlikeToHost (s t : State) : Prop where
  x : t.x = s.x
  pagesel : t.pagesel = s.pagesel
  mem : t.mem = s.mem
  dev : t.dev = s.dev
  freeCount : t.freeCount = s.freeCount
  status : { t.bdcscr with wsf := false } = { s.bdcscr with wsf := false }

namespace State.AlikeToHost

variable {s t : State} (h : s.AlikeToHost t)
include h

theorem unstated (p : Addr) : t.unstated p = s.unstated p := by
  simp [State.unstated, h.dev]

theorem peek (p : Addr) : t.peek p = s.peek p := by
  simp [State.peek, h.unstated, h.freeCount, State.byteAt_congr h.x h.pagesel h.mem]

theorem draws (p : Addr) : t.draws p = s.draws p := by
  simp [State.draws, h.unstated]

theorem store (p : Addr) (v : Byte) : (s.store p v).AlikeToHost (t.store p v) := by
  unfold State.store
  rw [h.dev]
  split
  · split
    · exact ⟨rfl, h.pagesel, h.mem, h.dev, h.freeCount, h.status⟩
    · split
      · exact ⟨h.x, rfl, h.mem, h.dev, h.freeCount, h.status⟩
      · exact ⟨h.x, h.pagesel, congrArg (Memory.write · p.toNat v) h.mem, h.dev, h.freeCount, h.status⟩
  · exact h

theorem after (a : HostAccess) : (a.after s).AlikeToHost (a.after t) := by
  unfold HostAccess.after
  split
  · exact ⟨h.x, h.pagesel, h.mem, h.dev, by simp only [h.freeCount, h.draws], h.status⟩
  · exact h.store _ _

theorem reply (a : HostAccess) : a.reply t = a.reply s := by
  unfold HostAccess.reply
  rw [h.status, h.peek]

end State.AlikeToHost

/-! ## What a command of the host leaves as it was -/

/-- `u` is `t` but for what accesses of the host inside an instruction may change. -/
def State.UpToHost (t u : State) : Prop :=
  ∃ x pagesel mem stores sent freeCount wsf, u = { t with
    x := x, pagesel := pagesel, mem := mem, stores := stores, sent := sent, freeCount := freeCount, bdcscr := { t.bdcscr with wsf := wsf } }

namespace State.UpToHost

variable {s t u : State}

theorem refl (t : State) : t.UpToHost t := ⟨_, _, _, _, _, _, _, rfl⟩

theorem symm (h : t.UpToHost u) : u.UpToHost t := by
  obtain ⟨_, _, _, _, _, _, _, rfl⟩ := h
  exact ⟨t.x, t.pagesel, t.mem, t.stores, t.sent, t.freeCount, t.bdcscr.wsf, rfl⟩

theorem trans (h : s.UpToHost t) (h' : t.UpToHost u) : s.UpToHost u := by
  obtain ⟨_, _, _, _, _, _, _, rfl⟩ := h
  obtain ⟨_, _, _, _, _, _, _, rfl⟩ := h'
  exact ⟨_, _, _, _, _, _, _, rfl⟩

theorem eq_with (h : t.UpToHost u) : u = { t with
    x := u.x, pagesel := u.pagesel, mem := u.mem, stores := u.stores, sent := u.sent, freeCount := u.freeCount, bdcscr := { t.bdcscr with wsf := u.bdcscr.wsf } } := by
  obtain ⟨_, _, _, _, _, _, _, rfl⟩ := h
  rfl

theorem mode (h : t.UpToHost u) : u.mode = t.mode := by rw [h.eq_with]
theorem collision (h : t.UpToHost u) : u.collision = t.collision := by rw [h.eq_with]
theorem dev (h : t.UpToHost u) : u.dev = t.dev := by rw [h.eq_with]

/-- A store changes X, PAGESEL, memory and the record of stores alone. -/
theorem of_store (t : State) (p : Addr) (v : Byte) : t.UpToHost (t.store p v) := by
  unfold State.store
  split
  · split
    · exact ⟨_, _, _, _, _, _, _, rfl⟩
    · split <;> exact ⟨_, _, _, _, _, _, _, rfl⟩
  · exact refl t

theorem of_after (a : HostAccess) (t : State) : t.UpToHost (a.after t) := by
  unfold HostAccess.after
  split
  · exact ⟨_, _, _, _, _, _, _, rfl⟩
  · exact of_store t _ _

/-- An access of the host sets WSF, and the host fetches its reply. -/
theorem delivered (h : t.UpToHost u) (hr : t.reply = []) (bytes : List Byte) : t.UpToHost ((u.accessFailed false).answer bytes).delivered := by
  obtain ⟨_, _, _, _, _, _, _, rfl⟩ := h
  cases t
  cases hr
  exact ⟨_, _, _, _, _, _, _, rfl⟩

/-- The breakpoint logic does not see what the host changes (decision D18). -/
theorem touch (h : t.UpToHost u) (p : Addr) : (t.touch p).UpToHost (u.touch p) := by
  obtain ⟨_, _, _, _, _, _, _, rfl⟩ := h
  exact ⟨_, _, _, _, _, _, _, rfl⟩

theorem store (h : t.UpToHost u) (p : Addr) (v : Byte) : (t.store p v).UpToHost (u.store p v) :=
  (of_store t p v).symm.trans (h.trans (of_store u p v))

end State.UpToHost

/-! ## Commands between the read and the write (20_memory R79) -/

@[simp] theorem bdcAddress_setWidth (p : Addr) : bdcAddress (p.setWidth 16) = p := by
  unfold bdcAddress
  bv_omega

/-- In run mode an access fails only where the host declares a collision (47_bdc_commands R294). -/
theorem State.bdcAccessFails_run {t : State} (hm : t.mode = .run) (hc : t.collision = false) : t.bdcAccessFails = false := by
  simp [State.bdcAccessFails, State.asleep, hm, hc]

theorem bdcRead_legal {p : Addr} {t : State} (hf : t.bdcAccessFails = false) (hp : t.dev.kindAt p ≠ .illegal) :
    bdcRead p t = .ok (t.peek p) ({ t with freeCount := t.freeCount + t.draws p }.accessFailed false) := by
  rcases bdcRead_cases p t with ⟨h, -⟩ | ⟨-, h, -⟩ | ⟨-, -, e⟩
  · rw [hf] at h; cases h
  · exact absurd h hp
  · exact e

theorem bdcWrite_legal {p : Addr} {v : Byte} {t : State} (hf : t.bdcAccessFails = false) (hp : t.dev.kindAt p ≠ .illegal) :
    bdcWrite p v t = .ok () ((t.store p v).accessFailed false) := by
  rcases bdcWrite_cases p v t with ⟨h, -⟩ | ⟨-, h, -⟩ | ⟨-, -, e⟩
  · rw [hf] at h; cases h
  · exact absurd h hp
  · exact e

theorem hostCommand_read (p : Addr) (ws : Bool) (t : State) : hostCommand (HostAccess.command ⟨p, none, ws⟩) t = bdcReadByte p ws t := by
  cases ws <;> exact congrArg (bdcReadByte · _ t) (bdcAddress_setWidth p)

theorem hostCommand_write (p : Addr) (v : Byte) (ws : Bool) (t : State) : hostCommand (HostAccess.command ⟨p, some v, ws⟩) t = bdcWriteByte p v ws t := by
  cases ws <;> exact congrArg (bdcWriteByte · v _ t) (bdcAddress_setWidth p)

/-- Where no reply waits, to answer nothing changes nothing. -/
theorem State.answer_nil {s : State} (h : s.reply = []) : s.answer [] = s := by
  simp [State.answer, ← h]

/-- The command of an access makes it, with WSF 0 and its reply. -/
theorem hostCommand_access (a : HostAccess) {t : State} (hm : t.mode = .run) (hc : t.collision = false) (hr : t.reply = [])
    (ha : t.dev.kindAt a.address ≠ .illegal) : hostCommand a.command t = .ok () (((a.after t).accessFailed false).answer (a.reply t)) := by
  have hf := State.bdcAccessFails_run hm hc
  obtain ⟨p, value, ws⟩ := a
  cases value with
  | none =>
    rw [hostCommand_read, bdcReadByte, bdcRead_legal hf ha]
    cases ws <;> rfl
  | some v =>
    rw [hostCommand_write, bdcWriteByte, bdcWrite_legal hf ha]
    cases ws with
    | true => simp [HostAccess.after, HostAccess.reply, State.status]
    | false =>
      have hnone : ((t.store p v).accessFailed false).reply = [] := by simp [hr]
      simp [HostAccess.after, HostAccess.reply, State.answer_nil hnone]

/-- The state in which the next command finds the machine. -/
def HostAccess.done (a : HostAccess) (t : State) : State := (((a.after t).accessFailed false).answer (a.reply t)).delivered

theorem HostAccess.sent_done (a : HostAccess) (t : State) : (a.done t).sent = t.sent ++ a.reply t := congrArg (· ++ a.reply t) (a.sent_after t)

theorem State.AlikeToHost.done {s t : State} (h : s.AlikeToHost t) (a : HostAccess) : (a.after s).AlikeToHost (a.done t) := by
  have hafter := h.after a
  exact ⟨hafter.x, hafter.pagesel, hafter.mem, hafter.dev, hafter.freeCount, hafter.status⟩

/-- `u` is `t` after the accesses `hs`, as they go from a state `s` that is alike to the host. -/
structure HostRan (hs : List HostAccess) (s t u : State) : Prop where
  upToHost : t.UpToHost u
  x : u.x = (State.hostAccesses hs s).1.x
  pagesel : u.pagesel = (State.hostAccesses hs s).1.pagesel
  mem : u.mem = (State.hostAccesses hs s).1.mem
  freeCount : u.freeCount = (State.hostAccesses hs s).1.freeCount
  sent : u.sent = t.sent ++ (State.hostAccesses hs s).2
  wsf : u.bdcscr.wsf = (t.bdcscr.wsf && hs.isEmpty)

/-- The commands of accesses make them, in order. -/
theorem performAll_hostRan {hs : List HostAccess} {s t : State} (h : s.AlikeToHost t) (hm : t.mode = .run) (hc : t.collision = false) (hr : t.reply = [])
    (hlegal : ∀ a ∈ hs, t.dev.kindAt a.address ≠ .illegal) : ∃ u, performAll (hs.map HostAccess.command) t = .ok () u ∧ HostRan hs s t u := by
  induction hs generalizing s t with
  | nil => exact ⟨t, rfl, .refl t, h.x, h.pagesel, h.mem, h.freeCount, by simp [State.hostAccesses], by simp⟩
  | cons a hs ih =>
    obtain ⟨ha, hrest⟩ := List.forall_mem_cons.1 hlegal
    have hcommand := hostCommand_access a hm hc hr ha
    have hup : t.UpToHost (a.done t) := (State.UpToHost.of_after a t).delivered hr _
    obtain ⟨u, hu, hran⟩ := ih (h.done a) (hup.mode.trans hm) (hup.collision.trans hc) rfl (by rwa [hup.dev])
    refine ⟨u, ?_, hup.trans hran.upToHost, ?_, ?_, ?_, ?_, ?_, ?_⟩
    · show (hostCommand a.command t).bind _ = _
      rw [hcommand]
      exact hu
    · rw [hostAccesses_cons, hran.x]
    · rw [hostAccesses_cons, hran.pagesel]
    · rw [hostAccesses_cons, hran.mem]
    · rw [hostAccesses_cons, hran.freeCount]
    · rw [hostAccesses_cons, hran.sent, a.sent_done, h.reply, List.append_assoc]
    · exact hran.wsf.trans (Bool.and_false _).symm

theorem HostRan.byteAt {hs : List HostAccess} {s t u : State} (h : HostRan hs s t u) (q : Addr) : u.byteAt q = (State.hostAccesses hs s).1.byteAt q :=
  State.byteAt_congr h.x h.pagesel h.mem q

theorem HostRan.resolve {hs : List HostAccess} {s t u : State} (h : HostRan hs s t u) (a : Byte) : u.resolve a = (State.hostAccesses hs s).1.resolve a := by
  simp only [State.resolve, h.x, h.pagesel]

/-! ## A read, commands of the host, and a write (20_memory R73, R79) -/

/-- The common shape of the instructions that read one operand and write another, or the same: `g` makes the byte written of the byte read, and `f` follows. -/
def readThenWrite (len : Addr) (src dst : Byte) (g : Byte → Byte) (f : Byte → State → State) (s : State) : Host.Outcome State Fault Refusal :=
  ((memRead src (s.advance len)).bind fun v t =>
    (stolenCycle t).bind fun _ t1 =>
      (memWrite dst (g v) t1).bind fun _ t2 => .ok () (f (g v) t2)).finish

theorem modifyOperand_eq_readThenWrite (len : Addr) (a : Byte) (g : Byte → Byte) (f : Byte → State → State) (s : State) :
    modifyOperand len a g f s = readThenWrite len a a g f s := rfl

theorem moveOperand_eq_readThenWrite (len : Addr) (src dst : Byte) (f : Byte → State → State) (s : State) :
    moveOperand len src dst f s = readThenWrite len src dst id f s := rfl

/-- The state between the read and the write, before any command. -/
def State.betweenAccesses (s : State) (len : Addr) (src : Byte) : State := { (s.advance len).afterOperand src with stolen := [] }

/-- The state after the write of `v` to `dst`. -/
def State.written (s : State) (dst v : Byte) : State := (s.touch (s.resolve dst)).store (s.resolve dst) v

@[simp] theorem State.written_sent (s : State) (dst v : Byte) : (s.written dst v).sent = s.sent := by simp [State.written]
@[simp] theorem State.written_freeCount (s : State) (dst v : Byte) : (s.written dst v).freeCount = s.freeCount := by simp [State.written]
@[simp] theorem State.written_bdcscr (s : State) (dst v : Byte) : (s.written dst v).bdcscr = s.bdcscr := by simp [State.written]

theorem State.byteAt_written {s : State} (h : s.mem.wf = true) (dst v : Byte) :
    (s.written dst v).byteAt (s.resolve dst) = if s.dev.kindAt (s.resolve dst) = .ram then v else s.byteAt (s.resolve dst) :=
  State.byteAt_store (s := s.touch (s.resolve dst)) h (s.resolve dst) v

theorem State.byteAt_written_other {s : State} {dst : Byte} {q : Addr} (h : q ≠ s.resolve dst) (v : Byte) : (s.written dst v).byteAt q = s.byteAt q :=
  State.byteAt_store_other (s.touch (s.resolve dst)) v h.symm

/-- The same write to the same address, before and after what the host has done. -/
theorem State.UpToHost.written {t u : State} (h : t.UpToHost u) {dst : Byte} (hres : u.resolve dst = t.resolve dst) (v : Byte) :
    (t.written dst v).UpToHost (u.written dst v) := by
  unfold State.written
  rw [hres]
  exact (h.touch _).store _ v

/-- Both addresses are legal, and the commands between the accesses complete. -/
theorem readThenWrite_legal {len : Addr} {src dst : Byte} {g : Byte → Byte} {f : Byte → State → State} {s u : State} (hsrc : s.legal src) (hdst : u.legal dst)
    (hu : performAll s.stolen (s.betweenAccesses len src) = .ok () u) :
    readThenWrite len src dst g f s = .next (f (g (s.operandByte src)) (u.written dst (g (s.operandByte src)))) := by
  have hstolen : stolenCycle ((s.advance len).afterRead (s.resolve src)) = .ok () u := hu
  simp only [readThenWrite, memRead, State.resolve_advance]
  rw [physRead_legal (by exact hsrc), Access.bind_ok, hstolen, Access.bind_ok]
  simp only [memWrite]
  rw [physWrite_legal hdst]
  rfl

/-- What follows the write reads nothing that the host can change, and changes of it the record of stores alone. -/
structure KeepsHostData (f : Byte → State → State) : Prop where
  upToHost : ∀ (v : Byte) {t u : State}, t.UpToHost u → (f v t).UpToHost (f v u)
  keeps : ∀ (v : Byte) (u : State), ∃ a pc z stores, f v u = { u with a := a, pc := pc, z := z, stores := stores }

namespace KeepsHostData

variable {f : Byte → State → State} (hf : KeepsHostData f) (v : Byte) (u : State)
include hf

theorem byteAt (q : Addr) : (f v u).byteAt q = u.byteAt q := by
  obtain ⟨_, _, _, _, e⟩ := hf.keeps v u
  rw [e]
  rfl

theorem sent : (f v u).sent = u.sent := by
  obtain ⟨_, _, _, _, e⟩ := hf.keeps v u
  rw [e]

theorem freeCount : (f v u).freeCount = u.freeCount := by
  obtain ⟨_, _, _, _, e⟩ := hf.keeps v u
  rw [e]

theorem bdcscr : (f v u).bdcscr = u.bdcscr := by
  obtain ⟨_, _, _, _, e⟩ := hf.keeps v u
  rw [e]

end KeepsHostData

theorem KeepsHostData.testZ : KeepsHostData State.testZ where
  upToHost v _ _ h := by
    obtain ⟨_, _, _, _, _, _, _, rfl⟩ := h
    exact ⟨_, _, _, _, _, _, _, rfl⟩
  keeps _ _ := ⟨_, _, _, _, rfl⟩

theorem KeepsHostData.nothing : KeepsHostData fun _ t => t where
  upToHost _ _ _ h := h
  keeps _ _ := ⟨_, _, _, _, rfl⟩

/-- DBNZ branches by its result (44_branch_loop R235). -/
theorem KeepsHostData.branchIfNonzero (rr : Byte) : KeepsHostData (State.branchIfNonzero rr) where
  upToHost v _ _ h := by
    unfold State.branchIfNonzero State.branchIf
    obtain ⟨_, _, _, _, _, _, _, rfl⟩ := h
    split <;> exact ⟨_, _, _, _, _, _, _, rfl⟩
  keeps v u := by
    unfold State.branchIfNonzero State.branchIf
    split <;> exact ⟨_, _, _, _, rfl⟩

/-- The instruction reads `src` and writes what `g` makes of it to `dst`. -/
def ReadsThenWrites (i : Instr) (src dst : Byte) (g : Byte → Byte) : Prop :=
  ∃ len f, KeepsHostData f ∧ ∀ s, exec i s = readThenWrite len src dst g f s

section
variable {s : State} {hs : List HostAccess} (hwf : s.mem.wf = true) (hm : s.mode = .run) (hc : s.collision = false) (hr : s.reply = [])
  (hstolen : s.stolen = hs.map HostAccess.command) (hlegal : ∀ h ∈ hs, s.dev.kindAt h.address ≠ .illegal)
include hwf hm hc hr hstolen hlegal

/-- The commands fall between the read and the write: the instruction writes what it makes of the byte it has read, and the rest is as they leave it. -/
theorem ReadsThenWrites.stolen {i : Instr} {src dst : Byte} {g : Byte → Byte} (hi : ReadsThenWrites i src dst g) (hsrc : s.legal src) (hdst : s.legal dst)
    (hres : (State.hostAccesses hs (s.afterOperand src)).1.resolve dst = s.resolve dst) :
    ∃ t u, exec i { s with stolen := [] } = .next t ∧ exec i s = .next u ∧
      u.byteAt (s.resolve dst) = (if s.dev.kindAt (s.resolve dst) = .ram then g (s.operandByte src) else s.byteAt (s.resolve dst)) ∧
      (∀ q, q ≠ s.resolve dst → u.byteAt q = (State.hostAccesses hs (s.afterOperand src)).1.byteAt q) ∧
      u = { t with x := u.x, pagesel := u.pagesel, mem := u.mem, stores := u.stores, sent := s.sent ++ (State.hostAccesses hs (s.afterOperand src)).2,
                   freeCount := (State.hostAccesses hs (s.afterOperand src)).1.freeCount, bdcscr := { t.bdcscr with wsf := s.bdcscr.wsf && hs.isEmpty } } := by
  obtain ⟨len, f, hf, hexec⟩ := hi
  have halike : (s.afterOperand src).AlikeToHost (s.betweenAccesses len src) := ⟨rfl, rfl, rfl, rfl, rfl, rfl⟩
  obtain ⟨m, hperform, hran⟩ := performAll_hostRan halike hm hc hr hlegal
  have hresolve : m.resolve dst = s.resolve dst := (hran.resolve dst).trans hres
  have hdev : m.dev = s.dev := hran.upToHost.dev
  have hmdst : m.legal dst := by
    unfold State.legal
    rw [hdev, hresolve]
    exact hdst
  have hmwf : m.mem.wf = true := hran.mem ▸ wf_hostAccesses hs hwf
  have halone : exec i { s with stolen := [] } = .next (f (g (s.operandByte src)) ((s.betweenAccesses len src).written dst (g (s.operandByte src)))) :=
    (hexec _).trans (readThenWrite_legal (u := s.betweenAccesses len src) hsrc hdst rfl)
  have hwith := (hexec s).trans (readThenWrite_legal hsrc hmdst (hstolen ▸ hperform))
  generalize g (s.operandByte src) = v at halone hwith ⊢
  refine ⟨_, _, halone, hwith, ?byte, ?others, ?fields⟩
  case byte =>
    rw [hf.byteAt, ← hresolve, State.byteAt_written hmwf, hdev]
    by_cases hram : s.dev.kindAt (m.resolve dst) = .ram
    · rw [if_pos hram, if_pos hram]
    · rw [if_neg hram, if_neg hram]
      exact (hran.byteAt _).trans (byteAt_hostAccesses_not_ram hs hram)
  case others =>
    intro q hq
    rw [hf.byteAt, State.byteAt_written_other (hresolve ▸ hq)]
    exact hran.byteAt q
  case fields =>
    have hsent : (f v (m.written dst v)).sent = s.sent ++ (State.hostAccesses hs (s.afterOperand src)).2 := by
      rw [hf.sent, State.written_sent]
      exact hran.sent
    have hfree : (f v (m.written dst v)).freeCount = (State.hostAccesses hs (s.afterOperand src)).1.freeCount := by
      rw [hf.freeCount, State.written_freeCount]
      exact hran.freeCount
    have hwsf : (f v (m.written dst v)).bdcscr.wsf = (s.bdcscr.wsf && hs.isEmpty) := by
      rw [hf.bdcscr, State.written_bdcscr]
      exact hran.wsf
    have heq := (hf.upToHost v (hran.upToHost.written hresolve v)).eq_with
    rwa [hsent, hfree, hwsf] at heq

end

/-! ## The instructions (30_encoding R120) -/

/-- INC, DEC: Z from the byte written (41_math R181, R184). -/
theorem ReadsThenWrites.test {i : Instr} {a : Byte} {g : Byte → Byte} {len : Addr} (h : ∀ s, exec i s = modifyOperand len a g State.testZ s) :
    ReadsThenWrites i a a g := ⟨len, _, .testZ, fun s => (h s).trans (modifyOperand_eq_readThenWrite len a g _ s)⟩

/-- BSET, BCLR: nothing follows the write (40_data_movement R148, R149). -/
theorem ReadsThenWrites.bit {i : Instr} {a : Byte} {g : Byte → Byte} {len : Addr} (h : ∀ s, exec i s = modifyOperand len a g (fun _ t => t) s) :
    ReadsThenWrites i a a g := ⟨len, _, .nothing, fun s => (h s).trans (modifyOperand_eq_readThenWrite len a g _ s)⟩

/-- DBNZ: the branch follows the write (44_branch_loop R235). -/
theorem ReadsThenWrites.loop {i : Instr} {a rr : Byte} {g : Byte → Byte} {len : Addr}
    (h : ∀ s, exec i s = modifyOperand len a g (State.branchIfNonzero rr) s) : ReadsThenWrites i a a g :=
  ⟨len, _, .branchIfNonzero rr, fun s => (h s).trans (modifyOperand_eq_readThenWrite len a g _ s)⟩

/-- MOV, LDX, STX, TST: the byte read is the byte written (40_data_movement R147). -/
theorem ReadsThenWrites.move {i : Instr} {src dst : Byte} {len : Addr} (h : ∀ s, exec i s = moveOperand len src dst State.testZ s) :
    ReadsThenWrites i src dst id := ⟨len, _, .testZ, fun s => (h s).trans (moveOperand_eq_readThenWrite len src dst _ s)⟩

/-- Settles O16: each instruction of the two lists is a read and then a write, and `ReadsThenWrites.stolen` says what the commands between them do. -/
theorem stolenCycleFallsBetweenReadAndWrite : Obligations.StolenCycleFallsBetweenReadAndWrite := by
  unfold Obligations.StolenCycleFallsBetweenReadAndWrite
  intro s n dd ss rr a hs hwf hm hc hr hstolen hlegal
  constructor
  · intro f hf hop hres
    have hshape : ReadsThenWrites f.1 f.2.1 f.2.1 f.2.2 := by
      clear hop hres
      revert f
      simp only [List.forall_mem_cons]
      exact ⟨.test fun _ => rfl, .test fun _ => rfl, .test fun _ => rfl, .test fun _ => rfl,
        .test fun _ => rfl, .test fun _ => rfl, .test fun _ => rfl, .test fun _ => rfl,
        .bit fun _ => rfl, .bit fun _ => rfl, .bit fun _ => rfl, .bit fun _ => rfl, .bit fun _ => rfl, .bit fun _ => rfl,
        .loop fun _ => rfl, .loop fun _ => rfl, .loop fun _ => rfl, nofun⟩
    exact hshape.stolen hwf hm hc hr hstolen hlegal hop hop hres
  · intro f hf hsrc hdst hres
    have hshape : ReadsThenWrites f.1 f.2.1 f.2.2 id := by
      clear hsrc hdst hres
      revert f
      simp only [List.forall_mem_cons]
      exact ⟨.move fun _ => rfl, .move fun _ => rfl, .move fun _ => rfl, .move fun _ => rfl, .move fun _ => rfl, .move fun _ => rfl,
        .move fun _ => rfl, .move fun _ => rfl, .move fun _ => rfl, nofun⟩
    exact hshape.stolen hwf hm hc hr hstolen hlegal hsrc hdst hres

end Sys2Proof.Machine
end

section
/-! PROOFS. The names of 30_encoding R120: a pseudo instruction and its native form have the same bytes and the same meaning, and the well-formed instructions are the
names that native forms get. With it O4. -/

namespace Sys2Proof.Machine

/-! ## Native forms (30_encoding R120) -/

theorem native_native (i : Instr) : native (native i) = native i := by
  cases i <;> rfl

theorem isCommand_native (i : Instr) : isCommand (native i) = isCommand i := by
  cases i <;> rfl

/-- The bytes of a pseudo instruction are those of the native form at the operand its name fixes. -/
theorem encode_native (i : Instr) : encode (native i) = encode i := by
  cases i <;> rfl

/-- Each pseudo instruction is defined by the operand shape of its native form, at the operand its name fixes. -/
theorem exec_native (i : Instr) (s : State) : exec (native i) s = exec i s := by
  cases i <;> rfl

theorem native_ite {p : Prop} [Decidable p] {i j k : Instr} (hi : p → native i = k) (hj : native j = k) : native (if p then i else j) = k := by
  split
  case isTrue h => exact hi h
  case isFalse => exact hj

/-- Naming keeps the native form: a pseudo instruction is named only where the operand is the one its row fixes. -/
theorem native_named (i : Instr) : native (named i) = native i := by
  cases i with
  | brset | brclr | bset | bclr | cbeqDir | dbnzDir | adcDir | sbcDir | cmpDir | andDir | oraDir | eorDir | movImm
  | incTny | decTny | addTny | subTny | clrSrt | ldaSrt | staSrt =>
    exact native_ite (by rintro rfl; rfl) (native_ite (by rintro rfl; rfl) rfl)
  | bra | oraImm => exact native_ite (by rintro rfl; rfl) rfl
  | movDir =>
    refine native_ite (by rintro rfl; exact native_ite (by rintro rfl; rfl) (native_ite (by rintro rfl; rfl) rfl)) ?_
    refine native_ite (by rintro rfl; exact native_ite (by rintro rfl; rfl) rfl) ?_
    exact native_ite (by rintro rfl; rfl) (native_ite (by rintro rfl; rfl) (native_ite (by rintro rfl; rfl) rfl))
  | _ => rfl

/-- The opcode map holds native instructions and illegal opcodes alone (30_encoding R110, R114). -/
theorem native_decodeNative (op b1 b2 : Byte) : native (decodeNative op b1 b2) = decodeNative op b1 b2 := by
  unfold decodeNative
  split
  case h_1 | h_2 => split <;> rfl
  case h_4 => unfold decodeRow3; split <;> rfl
  case h_5 => unfold decodeRow4; split <;> rfl
  case h_11 => unfold decodeRowA; split <;> rfl
  case h_12 => unfold decodeRowB; split <;> rfl
  all_goals rfl

theorem native_decodeOp (op b1 b2 : Byte) : native (decodeOp op b1 b2) = decodeNative op b1 b2 :=
  (native_named _).trans (native_decodeNative op b1 b2)

/-- Settles O4. -/
theorem pseudoRunsAsItsNative : Obligations.PseudoRunsAsItsNative := by
  unfold Obligations.PseudoRunsAsItsNative
  exact ⟨exec_native, native_decodeOp⟩

/-! ## Well-formedness, check by check (log 2) -/

theorem plainDir_iff {dd : Byte} : plainDir dd = true ↔ dd ≠ ixAddr ∧ dd ≠ xAddr := by simp [plainDir]
theorem plainTny_iff {a : BitVec 4} : plainTny a = true ↔ a ≠ 0xE#4 ∧ a ≠ 0xF#4 := by simp [plainTny]
theorem plainSrt_iff {a : BitVec 5} : plainSrt a = true ↔ a ≠ 0x0E#5 ∧ a ≠ 0x0F#5 := by simp [plainSrt]

theorem wellFormed_bra_iff {rr : Byte} : WellFormed (.bra rr) = true ↔ rr ≠ 0#8 := bne_iff_ne
theorem wellFormed_oraImm_iff {ii : Byte} : WellFormed (.oraImm ii) = true ↔ ii ≠ 0#8 := bne_iff_ne
theorem wellFormed_stxDir_iff {dd : Byte} : WellFormed (.stxDir dd) = true ↔ dd ≠ xAddr := bne_iff_ne

theorem wellFormed_movDir_iff {ss dd : Byte} : WellFormed (.movDir ss dd) = true ↔ plainDir ss = true ∧ plainDir dd = true ∧ ss ≠ dd := by
  show (plainDir ss && plainDir dd && ss != dd) = true ↔ _
  rw [Bool.and_eq_true, Bool.and_eq_true, bne_iff_ne, and_assoc]

/-! ## A well-formed instruction is the name of its native form -/

theorem ite_ite_of_ne {α β : Type} [DecidableEq α] {a k l : α} {i j m : β} (h : a ≠ k ∧ a ≠ l) : (if a = k then i else if a = l then j else m) = m :=
  (if_neg h.1).trans (if_neg h.2)

theorem nameMov_of_plain {ss dd : Byte} (hs : plainDir ss = true) (hd : plainDir dd = true) (h : ss ≠ dd) : nameMov ss dd = .movDir ss dd := by
  rw [plainDir_iff] at hs hd
  simp [nameMov, h, hs, hd]

theorem nameMov_self {dd : Byte} (h : plainDir dd = true) : nameMov dd dd = .tstDir dd :=
  (if_pos rfl).trans (ite_ite_of_ne (plainDir_iff.mp h))

theorem nameMov_to_x {ss : Byte} (h : plainDir ss = true) : nameMov ss xAddr = .ldxDir ss := by
  rw [plainDir_iff] at h
  simp [nameMov, h]

theorem nameMov_from_x {dd : Byte} (h : dd ≠ xAddr) : nameMov xAddr dd = .stxDir dd := by
  simp [nameMov, h, h.symm]

theorem nameMov_to_ix {ss : Byte} (h : plainDir ss = true) : nameMov ss ixAddr = .movDirIx ss := by
  have hne : ixAddr ≠ xAddr := by decide
  rw [plainDir_iff] at h
  simp [nameMov, h, hne]

theorem nameMov_from_ix {dd : Byte} (h : plainDir dd = true) : nameMov ixAddr dd = .movIxDir dd := by
  have hne : ixAddr ≠ xAddr := by decide
  rw [plainDir_iff] at h
  simp [nameMov, h, h.1.symm, hne]

theorem named_native {i : Instr} (h : WellFormed i = true) : named (native i) = i := by
  cases i with
  | brset | brclr | bset | bclr | cbeqDir | dbnzDir | adcDir | sbcDir | cmpDir | andDir | oraDir | eorDir | movImm =>
    exact ite_ite_of_ne (plainDir_iff.mp h)
  | incTny | decTny | addTny | subTny => exact ite_ite_of_ne (plainTny_iff.mp h)
  | clrSrt | ldaSrt | staSrt => exact ite_ite_of_ne (plainSrt_iff.mp h)
  | bra => exact if_neg (wellFormed_bra_iff.mp h)
  | oraImm => exact if_neg (wellFormed_oraImm_iff.mp h)
  | movDir =>
    obtain ⟨hs, hd, hne⟩ := wellFormed_movDir_iff.mp h
    exact nameMov_of_plain hs hd hne
  | tstDir => exact nameMov_self h
  | ldxDir => exact nameMov_to_x h
  | stxDir => exact nameMov_from_x (wellFormed_stxDir_iff.mp h)
  | movDirIx => exact nameMov_to_ix h
  | movIxDir => exact nameMov_from_ix h
  | asla | bhs | blo | staX => cases h
  | _ => rfl

/-! ## The name of a native form is well-formed -/

theorem wellFormed_ite {p : Prop} [Decidable p] {i j : Instr} (hi : p → WellFormed i = true) (hj : ¬p → WellFormed j = true) :
    WellFormed (if p then i else j) = true := by
  split
  case isTrue h => exact hi h
  case isFalse h => exact hj h

theorem wellFormed_ite_ite {α : Type} [DecidableEq α] {a k l : α} {i j m : Instr} (hi : WellFormed i = true) (hj : WellFormed j = true)
    (hm : a ≠ k ∧ a ≠ l → WellFormed m = true) : WellFormed (if a = k then i else if a = l then j else m) = true :=
  wellFormed_ite (fun _ => hi) fun hk => wellFormed_ite (fun _ => hj) fun hl => hm ⟨hk, hl⟩

/-- Along the choice of a name for 4E ss dd: the conditions that failed before a name are what well-formedness asks of it. -/
theorem wellFormed_nameMov (ss dd : Byte) : WellFormed (nameMov ss dd) = true := by
  refine wellFormed_ite (fun _ => wellFormed_ite_ite rfl rfl plainDir_iff.mpr) fun hne => ?_
  refine wellFormed_ite (fun hdx => wellFormed_ite (fun _ => rfl) fun hsix => plainDir_iff.mpr ⟨hsix, hdx ▸ hne⟩) fun hdx => ?_
  refine wellFormed_ite (fun _ => wellFormed_stxDir_iff.mpr hdx) fun hsx => ?_
  refine wellFormed_ite (fun hsix => plainDir_iff.mpr ⟨fun hdix => hne (hsix.trans hdix.symm), hdx⟩) fun hsix => ?_
  refine wellFormed_ite (fun _ => plainDir_iff.mpr ⟨hsix, hsx⟩) fun hdix => ?_
  exact wellFormed_movDir_iff.mpr ⟨plainDir_iff.mpr ⟨hsix, hsx⟩, plainDir_iff.mpr ⟨hdix, hdx⟩, hne⟩

theorem wellFormed_named {i : Instr} (h : native i = i) : WellFormed (named i) = true := by
  cases i with
  | brset | brclr | bset | bclr | cbeqDir | dbnzDir | adcDir | sbcDir | cmpDir | andDir | oraDir | eorDir | movImm =>
    exact wellFormed_ite_ite rfl rfl plainDir_iff.mpr
  | incTny | decTny | addTny | subTny => exact wellFormed_ite_ite rfl rfl plainTny_iff.mpr
  | clrSrt | ldaSrt | staSrt => exact wellFormed_ite_ite rfl rfl plainSrt_iff.mpr
  | bra => exact wellFormed_ite (fun _ => rfl) wellFormed_bra_iff.mpr
  | oraImm => exact wellFormed_ite (fun _ => rfl) wellFormed_oraImm_iff.mpr
  | movDir ss dd => exact wellFormed_nameMov ss dd
  | asla | bhs | blo | staX | ldxDir | stxDir | movIxDir | movDirIx | tstDir => cases h
  | _ => rfl

theorem wellFormed_decodeOp (op b1 b2 : Byte) : WellFormed (decodeOp op b1 b2) = true := wellFormed_named (native_decodeNative op b1 b2)

end Sys2Proof.Machine
end

section
/-! PROOFS. Decoding what is encoded and encoding what is decoded: O1, O2 and, with them, the illegal opcodes, O5. -/

namespace Sys2Proof.Machine

/-! ## The fields in an instruction's bytes (30_encoding R101) -/

/-- Functions of a field agree where their tables do. -/
theorem eq_of_tables_eq {α : Type} {w : ℕ} {f g : BitVec w → α}
    (h : (List.range (2 ^ w)).map (fun k => f (BitVec.ofNat w k)) = (List.range (2 ^ w)).map fun k => g (BitVec.ofNat w k)) (v : BitVec w) :
    f v = g v := by
  simpa using List.map_inj_left.mp h v.toNat (List.mem_range.mpr v.isLt)

/-! The opcode map reads a bit number, a tiny or a short address back from the opcode (30_encoding R105, R106, R111). -/

theorem decodeNative_brset (b1 b2 : Byte) : ∀ n : BitVec 3, decodeNative (bitOp 0x00 n) b1 b2 = .brset n b1 b2 := eq_of_tables_eq rfl
theorem decodeNative_brclr (b1 b2 : Byte) : ∀ n : BitVec 3, decodeNative (bitOp 0x01 n) b1 b2 = .brclr n b1 b2 := eq_of_tables_eq rfl
theorem decodeNative_bset (b1 b2 : Byte) : ∀ n : BitVec 3, decodeNative (bitOp 0x10 n) b1 b2 = .bset n b1 := eq_of_tables_eq rfl
theorem decodeNative_bclr (b1 b2 : Byte) : ∀ n : BitVec 3, decodeNative (bitOp 0x11 n) b1 b2 = .bclr n b1 := eq_of_tables_eq rfl
theorem decodeNative_incTny (b1 b2 : Byte) : ∀ a : BitVec 4, decodeNative (tnyOp 0x20 a) b1 b2 = .incTny a := eq_of_tables_eq rfl
theorem decodeNative_decTny (b1 b2 : Byte) : ∀ a : BitVec 4, decodeNative (tnyOp 0x50 a) b1 b2 = .decTny a := eq_of_tables_eq rfl
theorem decodeNative_addTny (b1 b2 : Byte) : ∀ a : BitVec 4, decodeNative (tnyOp 0x60 a) b1 b2 = .addTny a := eq_of_tables_eq rfl
theorem decodeNative_subTny (b1 b2 : Byte) : ∀ a : BitVec 4, decodeNative (tnyOp 0x70 a) b1 b2 = .subTny a := eq_of_tables_eq rfl
theorem decodeNative_clrSrt (b1 b2 : Byte) : ∀ a : BitVec 5, decodeNative (srtOp 0x80 a) b1 b2 = .clrSrt a := eq_of_tables_eq rfl
theorem decodeNative_ldaSrt (b1 b2 : Byte) : ∀ a : BitVec 5, decodeNative (srtOp 0xC0 a) b1 b2 = .ldaSrt a := eq_of_tables_eq rfl
theorem decodeNative_staSrt (b1 b2 : Byte) : ∀ a : BitVec 5, decodeNative (srtOp 0xE0 a) b1 b2 = .staSrt a := eq_of_tables_eq rfl

/-- The two address bytes of JMP and JSR hold the 14 bits of the address (30_encoding R108). -/
theorem extField_high_low (ea : Addr) : extField ((ea.extractLsb' 8 6).setWidth 8) (ea.extractLsb' 0 8) = ea := by
  ext i
  grind [extField]

/-! ## Decoding an encoding -/

/-- The decoder takes an opcode and as many operand bytes as the opcode asks for (30_encoding R100). -/
theorem decode_append {op : Byte} {operands : List Byte} (h : opLength op = operands.length + 1) (rest : List Byte) :
    decode (op :: operands ++ rest) = .decoded (decodeOp op (operands.getD 0 0) (operands.getD 1 0)) rest := by
  match operands, opLength_cases op with
  | [], _ | [_], _ | [_, _], _ => simp [decode, h]
  | _ :: _ :: _ :: _, hlength =>
    rw [List.length_cons, List.length_cons, List.length_cons] at h
    omega

/-- Where the opcode map gives an instruction back from its opcode and operand bytes, the decoder does so from its encoding, under its name. -/
theorem decode_encode_of_decodeNative {i : Instr} {op : Byte} {operands : List Byte} (hc : isCommand i = false) (hlength : Laws.EncodeLength.Statement i)
    (hbytes : encode i = op :: operands) (hmap : decodeNative op (operands.getD 0 0) (operands.getD 1 0) = i) (rest : List Byte) :
    decode (encode i ++ rest) = .decoded (named i) rest := by
  obtain ⟨_, _, hbytes', hl⟩ : ∃ op rest, encode i = op :: rest ∧ opLength op = rest.length + 1 := by
    simpa [Laws.EncodeLength.Statement, hc] using hlength
  cases hbytes.symm.trans hbytes'
  rw [hbytes, decode_append hl, decodeOp, hmap]

/-- A native instruction or an illegal opcode: its opcode is fixed, or the opcode map reads the field back. -/
theorem decode_encode_of_native {i : Instr} (hc : isCommand i = false) (hn : native i = i) (rest : List Byte) :
    decode (encode i ++ rest) = .decoded (named i) rest := by
  cases i with
  | brset n dd rr => exact decode_encode_of_decodeNative hc (Laws.EncodeLength.brset n dd rr) rfl (decodeNative_brset dd rr n) rest
  | brclr n dd rr => exact decode_encode_of_decodeNative hc (Laws.EncodeLength.brclr n dd rr) rfl (decodeNative_brclr dd rr n) rest
  | bset n dd => exact decode_encode_of_decodeNative hc (Laws.EncodeLength.bset n dd) rfl (decodeNative_bset dd 0 n) rest
  | bclr n dd => exact decode_encode_of_decodeNative hc (Laws.EncodeLength.bclr n dd) rfl (decodeNative_bclr dd 0 n) rest
  | incTny a => exact decode_encode_of_decodeNative hc (Laws.EncodeLength.incTny a) rfl (decodeNative_incTny 0 0 a) rest
  | decTny a => exact decode_encode_of_decodeNative hc (Laws.EncodeLength.decTny a) rfl (decodeNative_decTny 0 0 a) rest
  | addTny a => exact decode_encode_of_decodeNative hc (Laws.EncodeLength.addTny a) rfl (decodeNative_addTny 0 0 a) rest
  | subTny a => exact decode_encode_of_decodeNative hc (Laws.EncodeLength.subTny a) rfl (decodeNative_subTny 0 0 a) rest
  | clrSrt a => exact decode_encode_of_decodeNative hc (Laws.EncodeLength.clrSrt a) rfl (decodeNative_clrSrt 0 0 a) rest
  | ldaSrt a => exact decode_encode_of_decodeNative hc (Laws.EncodeLength.ldaSrt a) rfl (decodeNative_ldaSrt 0 0 a) rest
  | staSrt a => exact decode_encode_of_decodeNative hc (Laws.EncodeLength.staSrt a) rfl (decodeNative_staSrt 0 0 a) rest
  | jmp ea => exact decode_encode_of_decodeNative hc (Laws.EncodeLength.jmp ea) rfl (congrArg Instr.jmp (extField_high_low ea)) rest
  | jsr ea => exact decode_encode_of_decodeNative hc (Laws.EncodeLength.jsr ea) rfl (congrArg Instr.jsr (extField_high_low ea)) rest
  | bra | cbeqDir | bcc | bcs | bne | beq | clc | sec | decDir | dbnzDir | incDir | movImm | clrDir
  | cbeqa | sla | coma | lsra | sha | rora | lsla | rola | deca | dbnza | inca | movDir | clra
  | subImm | cmpImm | sbcImm | andImm | ldaImm | eorImm | adcImm | oraImm | addImm | nop | bsr | stop | wait
  | subDir | cmpDir | sbcDir | andDir | ldaDir | staDir | eorDir | adcDir | oraDir | addDir | rts | bgnd
  | illegal32 | illegal33 | illegal3D | illegal40 | illegal47 | illegal4D | illegalA3 | illegalA5 | illegalA7 | illegalB3 | illegalB5 => rfl
  | bdcReset | background | readStatus | writeControl | readByte | readByteWs | writeByte | writeByteWs | readBkpt | writeBkpt | go | trace1
  | readBlock | writeBlock | readA | writeA | readCcrPc | writeCcrPc | readSpc | writeSpc | sync => cases hc
  | _ => cases hn

/-- Settles O1: the bytes are those of the native form, which the opcode map gives back, and the name of that form is the instruction. -/
theorem decodeEncodeRoundTrip : Obligations.DecodeEncodeRoundTrip := by
  unfold Obligations.DecodeEncodeRoundTrip
  intro i rest hc hw
  calc decode (encode i ++ rest) = decode (encode (native i) ++ rest) := by rw [encode_native]
    _ = .decoded (named (native i)) rest := decode_encode_of_native ((isCommand_native i).trans hc) (native_native i) rest
    _ = .decoded i rest := by rw [named_native hw]

/-! ## Encoding what the decoder gives -/

/-- The bytes that the CPU takes for an opcode (30_encoding R100), of JMP and JSR those that hold the 14 bits of the address (R108; decision D2). -/
def takenBytes (op b1 b2 : Byte) : List Byte :=
  if op = 0xBC#8 ∨ op = 0xBD#8 then extWords op (extField b1 b2) else [op, b1, b2].take (opLength op)

theorem setWidth_low_six (b : Byte) : (b.extractLsb' 0 6).setWidth 8 = b &&& 0x3F#8 := by
  revert b
  decide

/-- The address of JMP and JSR has no room for bits 7:6 of its high byte. -/
theorem extWords_extField (op b1 b2 : Byte) : extWords op (extField b1 b2) = [op, b1 &&& 0x3F#8, b2] := by
  have hhigh : (extField b1 b2).extractLsb' 8 6 = b1.extractLsb' 0 6 := by
    ext i
    grind [extField]
  have hlow : (extField b1 b2).extractLsb' 0 8 = b2 := by
    ext i
    grind [extField]
  rw [extWords, hhigh, hlow, setWidth_low_six]

theorem takenBytes_eq (op b1 b2 : Byte) :
    takenBytes op b1 b2 = [op, if op = 0xBC#8 ∨ op = 0xBD#8 then b1 &&& 0x3F#8 else b1, b2].take (opLength op) := by
  unfold takenBytes
  split
  case isTrue h =>
    have hlength : opLength op = 3 := by rcases h with rfl | rfl <;> rfl
    rw [extWords_extField, hlength]
    rfl
  case isFalse => rfl

theorem head?_takenBytes (op b1 b2 : Byte) : (takenBytes op b1 b2).head? = some op := by
  obtain ⟨n, hn⟩ := Nat.exists_eq_add_one.mpr (opLength_pos op)
  rw [takenBytes_eq, hn]
  rfl

theorem opRow_append_tnyField (op : Byte) : opRow op ++ tnyField op = op := by
  ext i
  grind [opRow, tnyField]

/-- The encoder gives back the bytes taken: the sixteen cells of each row of the opcode map are compared, whatever the operand bytes are. -/
theorem encode_decodeNative (op b1 b2 : Byte) : encode (decodeNative op b1 b2) = takenBytes op b1 b2 := by
  have hcells (r : BitVec 4) : ∀ t : BitVec 4, encode (decodeNative (r ++ t) b1 b2) = takenBytes (r ++ t) b1 b2 := by
    obtain ⟨k, hk, rfl⟩ : ∃ k < 16, BitVec.ofNat 4 k = r := ⟨r.toNat, r.isLt, by simp⟩
    interval_cases k <;> exact eq_of_tables_eq rfl
  simpa only [opRow_append_tnyField] using hcells (opRow op) (tnyField op)

theorem encode_decodeOp (op b1 b2 : Byte) : encode (decodeOp op b1 b2) = takenBytes op b1 b2 := by
  rw [← encode_native, native_decodeOp, encode_decodeNative]

/-- Settles O2: naming keeps the bytes, and the opcode map loses none but bits 7:6 of the high address byte. -/
theorem encodeDecodeRoundTrip : Obligations.EncodeDecodeRoundTrip := by
  unfold Obligations.EncodeDecodeRoundTrip
  exact fun op b1 b2 => ⟨isCommand_decodeOp op b1 b2, wellFormed_decodeOp op b1 b2, (encode_decodeOp op b1 b2).trans (takenBytes_eq op b1 b2)⟩

/-! ## Illegal opcodes (30_encoding R114; 60_exceptions R323) -/

/-- The instructions of the eleven empty cells, in the order of `illegalOpcodes`. -/
def illegalInstrs : List Instr :=
  [.illegal32, .illegal33, .illegal3D, .illegal40, .illegal47, .illegal4D, .illegalA3, .illegalA5, .illegalA7, .illegalB3, .illegalB5]

theorem map_encode_illegalInstrs : illegalInstrs.map encode = illegalOpcodes.map ([·]) := rfl

theorem map_decodeOp_illegalOpcodes (b1 b2 : Byte) : illegalOpcodes.map (decodeOp · b1 b2) = illegalInstrs := rfl

theorem exec_illegal {i : Instr} (h : i ∈ illegalInstrs) (s : State) : exec i s = .next (takeReset .illegalOpcode s) := by
  simp only [illegalInstrs, List.mem_cons, List.not_mem_nil, or_false] at h
  rcases h with rfl | rfl | rfl | rfl | rfl | rfl | rfl | rfl | rfl | rfl | rfl <;> rfl

/-- What is decoded encodes to bytes that begin with the opcode, and an illegal instruction encodes to its opcode. -/
theorem decodeOp_mem_illegalInstrs_iff (op b1 b2 : Byte) : decodeOp op b1 b2 ∈ illegalInstrs ↔ op ∈ illegalOpcodes := by
  constructor
  · intro h
    have hbytes : encode (decodeOp op b1 b2) ∈ illegalOpcodes.map ([·]) := by
      rw [← map_encode_illegalInstrs]
      exact List.mem_map_of_mem h
    obtain ⟨b, hb, heq⟩ := List.mem_map.mp hbytes
    have hhead : some b = some op := by rw [← head?_takenBytes op b1 b2, ← encode_decodeOp, ← heq]; rfl
    rwa [← Option.some.inj hhead]
  · intro h
    rw [← map_decodeOp_illegalOpcodes b1 b2]
    exact List.mem_map_of_mem h

/-- A first byte is a defined instruction unless it is one of the eleven. -/
theorem length_filter_legalOpcodes : ((List.range 256).filter fun n => !(illegalOpcodes.contains (BitVec.ofNat 8 n))).length = 245 := by
  have hillegal : ((List.range 256).filter fun n => illegalOpcodes.contains (BitVec.ofNat 8 n)).Perm (illegalOpcodes.map BitVec.toNat) := by
    refine (List.perm_ext_iff_of_nodup (List.nodup_range.filter _) (by decide)).mpr fun n => ?_
    simp only [List.mem_filter, List.mem_range, List.contains_iff_mem, List.mem_map]
    constructor
    · rintro ⟨hn, hmem⟩
      exact ⟨_, hmem, by simpa using hn⟩
    · rintro ⟨b, hmem, rfl⟩
      exact ⟨b.isLt, by simpa using hmem⟩
  have hsplit := List.length_eq_length_filter_add (l := List.range 256) fun n => illegalOpcodes.contains (BitVec.ofNat 8 n)
  have heleven : illegalOpcodes.length = 11 := rfl
  rw [hillegal.length_eq, List.length_map, List.length_range] at hsplit
  omega

/-- Settles O5: the eleven opcodes and their instructions cell by cell, and the reset keeps memory. -/
theorem illegalOpcodesDecode : Obligations.IllegalOpcodesDecode := by
  unfold Obligations.IllegalOpcodesDecode
  refine ⟨decodeOp_mem_illegalInstrs_iff, fun s i hi => ?_, length_filter_legalOpcodes⟩
  have hcell : ∀ p ∈ illegalInstrs.zip illegalOpcodes, encode p.1 = [p.2] ∧ opLength p.2 = 1 ∧ accessDetail p.1 = [] := by decide
  have hmem : i.1 ∈ illegalInstrs ∧ i.2 ∈ illegalOpcodes := List.of_mem_zip hi
  obtain ⟨hencode, hlength, hdetail⟩ := hcell i hi
  exact ⟨hencode, hlength, hdetail, exec_illegal hmem.1 s, by simp [takeReset]⟩

end Sys2Proof.Machine
end

section
/-! PROOFS. The operand shapes beside the words of the tables, and what one store makes of a state: what the claims about single instructions are assembled from. -/

namespace Sys2Proof.Machine

/-! ## Opcodes that hold a field (30_encoding R106, R111) -/

/-- A field fills bits that are 0 in the opcode: joining it is adding it. -/
theorem or_eq_add_of_mask {base field mask : Byte} (hbase : base &&& mask = 0#8) (hfield : field &&& mask = field) : base ||| field = base + field := by
  refine (BitVec.add_eq_or_of_and_eq_zero base field ?_).symm
  rw [← hfield, BitVec.and_comm field, ← BitVec.and_assoc, hbase, BitVec.zero_and]

theorem srtOp_eq_add {base : Byte} (h : base &&& 0x1F#8 = 0#8) (a : BitVec 5) : srtOp base a = base + a.setWidth 8 :=
  or_eq_add_of_mask h (by revert a; decide)

theorem bitOp_eq_add {base : Byte} (h : base &&& 0x0E#8 = 0#8) (n : BitVec 3) : bitOp base n = base + 2 * n.setWidth 8 := by
  have hfield : n.setWidth 8 <<< 1 = 2 * n.setWidth 8 := by revert n; decide
  rw [← hfield]
  exact or_eq_add_of_mask h (by revert n; decide)

/-! ## Flags -/

theorem zeroFlag_eq_decide {v : Byte} {p : Prop} [Decidable p] (h : v = 0#8 ↔ p) : zeroFlag v = decide p := decide_eq_decide.mpr h

/-! ## A form and its meaning -/

/-- The form has the words of the table, and its instruction ends at `s` in `out`. -/
structure Form.Means (f : Form) (s : State) (out : Host.Outcome State Fault Refusal) : Prop where
  bytes : encode f.instr = f.bytes
  detail : accessDetail f.instr = f.detail
  runs : exec f.instr s = out

theorem Form.Means.fits {f : Form} {s : State} {out : Host.Outcome State Fault Refusal} (h : f.Means s out) : f.fits := ⟨h.bytes, h.detail⟩

theorem State.not_legal_iff {s : State} {a : Byte} : ¬ s.legal a ↔ s.dev.kindAt (s.resolve a) = .illegal := not_not

section
variable {f : Form} {s : State}

/-! An illegal operand resets, whatever the shape does with it (60_exceptions R325). -/

theorem Form.Means.traps_of_read {g : Byte → State → State} (h : f.Means s (readOperand f.len f.operand g s)) : f.traps s :=
  fun hill => h.runs.trans (readOperand_illegal (State.not_legal_iff.mp hill))

theorem Form.Means.traps_of_write {v : Byte} {g : State → State} (h : f.Means s (writeOperand f.len f.operand v g s)) : f.traps s :=
  fun hill => h.runs.trans (writeOperand_illegal (State.not_legal_iff.mp hill))

theorem Form.Means.traps_of_modify {g : Byte → Byte} {k : Byte → State → State} (h : f.Means s (modifyOperand f.len f.operand g k s)) : f.traps s :=
  fun hill => h.runs.trans (modifyOperand_illegal (State.not_legal_iff.mp hill))

theorem Form.Means.traps_of_move {dst : Byte} {k : Byte → State → State} (h : f.Means s (moveOperand f.len f.operand dst k s)) : f.traps s :=
  fun hill => h.runs.trans (moveOperand_illegal_source (State.not_legal_iff.mp hill))

/-- A read of a legal operand ends in what the shape does with the byte there. -/
theorem Form.Means.read {g : Byte → State → State} (h : f.Means s (readOperand f.len f.operand g s)) (hl : s.legal f.operand) :
    exec f.instr s = .next (g (s.operandByte f.operand) ((s.afterOperand f.operand).advance f.len)) :=
  h.runs.trans (readOperand_legal hl)

end

/-- An illegal destination is met after the read, of which a reset leaves the free values drawn alone (60_exceptions R325). -/
theorem moveOperand_illegal_destination {len : Addr} {src dst : Byte} {f : Byte → State → State} {s : State} (hs : s.stolen = []) (h : s.legal src)
    (h' : ¬ s.legal dst) :
    moveOperand len src dst f s = .next (takeReset .illegalAddress { s with freeCount := s.freeCount + s.draws (s.resolve src) }) := by
  simp only [moveOperand, memRead, State.resolve_advance]
  rw [physRead_legal (by exact h), Access.bind_ok, stolenCycle_none (by exact hs), Access.bind_ok]
  simp only [memWrite]
  rw [physWrite_illegal (by exact State.not_legal_iff.mp h')]
  rfl

/-! ## One byte stored (20_memory R64, R75) -/

/-- A store changes X, PAGESEL, memory and the record of stores alone. -/
theorem State.store_eq (s : State) (p : Addr) (v : Byte) :
    s.store p v = { s with x := (s.store p v).x, pagesel := (s.store p v).pagesel, mem := (s.store p v).mem, stores := s.storesAfter p s.pc } := by
  have heq := (State.UpToHost.of_store s p v).eq_with
  rw [State.stores_store, State.store_sent, State.store_freeCount, State.store_bdcscr] at heq
  exact heq

/-- A read has asked for the breakpoint already that a write to the same address asks for (60_exceptions R355). -/
theorem State.touch_afterRead (s : State) (p : Addr) : (s.afterRead p).touch p = s.afterRead p := by
  have hforced : (s.forcedRequest || s.breakpointHit p || s.breakpointHit p) = (s.forcedRequest || s.breakpointHit p) := by
    rw [Bool.or_assoc, Bool.or_self]
  exact congrArg (fun b => { s.afterRead p with forcedRequest := b }) hforced

/-- What a store does, byte by byte and field by field. -/
theorem State.byteStored_store {s : State} (hm : s.mem.wf = true) (p : Addr) (v : Byte) :
    ByteStored s { s with stores := s.storesAfter p s.pc } (s.store p v) p v where
  fields := s.store_eq p v
  byte := State.byteAt_store hm p v
  others _ hq := State.byteAt_store_other s v hq.symm

/-- The bytes before the store may be those of any state with the same memory and the same map. -/
theorem ByteStored.of_same_bytes {s u base t : State} {p : Addr} {v : Byte} (h : ByteStored u base t p v) (hx : u.x = s.x) (hp : u.pagesel = s.pagesel)
    (hm : u.mem = s.mem) (hd : u.dev = s.dev) : ByteStored s base t p v where
  fields := h.fields
  byte := by rw [h.byte, hd, State.byteAt_congr hx hp hm]
  others q hq := (h.others q hq).trans (State.byteAt_congr hx hp hm q)

/-- Setting Z afterwards concerns no byte. -/
theorem ByteStored.testZ {s base t : State} {p : Addr} {v : Byte} (h : ByteStored s base t p v) (w : Byte) :
    ByteStored s (base.testZ w) (t.testZ w) p v where
  fields := congrArg (State.testZ w) h.fields
  byte := h.byte
  others := h.others

end Sys2Proof.Machine
end

section
/-! PROOFS. Data movement: O12, O13 and O14, the loads and logical operations, O24 and O23, and the words of the listings, O6. -/

namespace Sys2Proof.Machine

/-! ## One byte written: STA, MOV immediate, CLR (40_data_movement R144–R146, 41_math R187) -/

theorem Form.Means.stored {f : Form} {s : State} {v : Byte} (h : f.Means s (writeOperand f.len f.operand v (State.testZ v) s)) (hm : s.mem.wf = true)
    (hl : s.legal f.operand) :
    ∃ t, exec f.instr s = .next t ∧
      ByteStored s { s with pc := s.pc + f.len, z := decide (v = 0#8),
                            forcedRequest := s.forcedRequest || s.breakpointHit (s.resolve f.operand),
                            stores := s.storesAfter (s.resolve f.operand) (s.pc + f.len) }
        t (s.resolve f.operand) v := by
  refine ⟨_, h.runs.trans (writeOperand_legal hl), ?_⟩
  have hstored := State.byteStored_store (s := (s.advance f.len).touch (s.resolve f.operand)) hm (s.resolve f.operand) v
  exact (hstored.testZ v).of_same_bytes rfl rfl rfl rfl

/-- Settles O12: each form writes its operand, and Z comes from the byte written. -/
theorem storeToMemory : Obligations.StoreToMemory := by
  unfold Obligations.StoreToMemory
  intro s dd ii a hm f hf
  have hmeans : f.1.Means s (writeOperand f.1.len f.1.operand f.2 (State.testZ f.2) s) := by
    revert f
    simp only [List.forall_mem_cons]
    exact ⟨⟨rfl, rfl, rfl⟩, ⟨congrArg ([·]) (srtOp_eq_add rfl a), rfl, rfl⟩, ⟨rfl, rfl, rfl⟩, ⟨rfl, rfl, rfl⟩, ⟨rfl, rfl, rfl⟩,
      ⟨rfl, rfl, rfl⟩, ⟨rfl, rfl, rfl⟩, ⟨rfl, rfl, rfl⟩,
      ⟨rfl, rfl, rfl⟩, ⟨congrArg ([·]) (srtOp_eq_add rfl a), rfl, rfl⟩, ⟨rfl, rfl, rfl⟩, ⟨rfl, rfl, rfl⟩, nofun⟩
  exact ⟨hmeans.fits, hmeans.traps_of_write, hmeans.stored hm⟩

/-! ## One byte moved: MOV, LDX, STX, TST (40_data_movement R147, R150, R151; 41_math R196) -/

/-- Settles O13: each form moves a byte between two operands, and Z comes from the byte moved. -/
theorem moveMemoryToMemory : Obligations.MoveMemoryToMemory := by
  unfold Obligations.MoveMemoryToMemory
  intro s ss dd hm hstolen f hf
  obtain ⟨hlen, hmeans⟩ : f.1.len = 3 ∧ f.1.Means s (moveOperand f.1.len f.1.operand f.2 State.testZ s) := by
    revert f
    simp only [List.forall_mem_cons]
    exact ⟨⟨rfl, rfl, rfl, rfl⟩, ⟨rfl, rfl, rfl, rfl⟩, ⟨rfl, rfl, rfl, rfl⟩, ⟨rfl, rfl, rfl, rfl⟩, ⟨rfl, rfl, rfl, rfl⟩, ⟨rfl, rfl, rfl, rfl⟩,
      ⟨rfl, rfl, rfl, rfl⟩, ⟨rfl, rfl, rfl, rfl⟩, ⟨rfl, rfl, rfl, rfl⟩, nofun⟩
  refine ⟨hmeans.fits, hmeans.traps_of_move, fun hsrc hdst => ?stored, fun hsrc hdst => ?illegal⟩
  case stored =>
    refine ⟨_, hmeans.runs.trans (moveOperand_legal hstolen hsrc hdst), ?_⟩
    have hstored := State.byteStored_store (s := ((s.advance 3).afterRead (s.resolve f.1.operand)).touch (s.resolve f.2)) hm (s.resolve f.2)
      (s.operandByte f.1.operand)
    rw [hlen]
    exact (hstored.testZ _).of_same_bytes rfl rfl rfl rfl
  case illegal => exact hmeans.runs.trans (moveOperand_illegal_destination hstolen hsrc hdst)

/-! ## One bit changed: BSET, BCLR (40_data_movement R148, R149) -/

/-- Settles O14: each form writes its operand back with one bit changed, and nothing follows the write. -/
theorem setAndClearBitInMemory : Obligations.SetAndClearBitInMemory := by
  unfold Obligations.SetAndClearBitInMemory
  intro s n dd hm hstolen f hf
  have hmeans : f.1.Means s (modifyOperand f.1.len f.1.operand f.2 (fun _ t => t) s) := by
    have hset (d : Byte) := congrArg ([·, d]) (bitOp_eq_add (base := 0x10) rfl n)
    have hclear (d : Byte) := congrArg ([·, d]) (bitOp_eq_add (base := 0x11) rfl n)
    revert f
    simp only [List.forall_mem_cons]
    exact ⟨⟨hset _, rfl, rfl⟩, ⟨hset _, rfl, rfl⟩, ⟨hset _, rfl, rfl⟩, ⟨hclear _, rfl, rfl⟩, ⟨hclear _, rfl, rfl⟩, ⟨hclear _, rfl, rfl⟩, nofun⟩
  refine ⟨hmeans.fits, hmeans.traps_of_modify, fun hl => ⟨_, hmeans.runs.trans (modifyOperand_legal hstolen hl), ?_⟩⟩
  rw [State.touch_afterRead]
  exact (State.byteStored_store (s := (s.advance f.1.len).afterRead (s.resolve f.1.operand)) hm _ _).of_same_bytes rfl rfl rfl rfl

/-! ## A loaded: LDA, AND, ORA, EOR and the operations on A alone (40_data_movement R141–R143, 42_logical R201–R207, 41_math R183–R195) -/

/-- TSTA is ORA #$00, which leaves A (41_math R195). -/
theorem runs_tsta (s : State) : Runs .tsta [0xAA#8, 0x00#8] [.p, .p] s { s with pc := s.pc + 2, z := decide (s.a = 0#8) } := by
  have hload : (s.advance 2).loadA (s.a ||| 0#8) = { s with pc := s.pc + 2, z := decide (s.a = 0#8) } := by
    rw [BitVec.or_zero]
    rfl
  exact ⟨rfl, rfl, congrArg Host.Outcome.next hload⟩

/-- Settles O24: each form reads its operand and loads A with what its operation makes of A and the byte. -/
theorem loadAndLogicFromMemory : Obligations.LoadAndLogicFromMemory := by
  unfold Obligations.LoadAndLogicFromMemory
  intro s dd a
  refine ⟨fun f hf => ?_, runs_tsta s⟩
  have hmeans : f.1.Means s (readOperand f.1.len f.1.operand (fun m t => t.loadA (f.2 t.a m)) s) := by
    revert f
    simp only [List.forall_mem_cons]
    exact ⟨⟨rfl, rfl, rfl⟩, ⟨congrArg ([·]) (srtOp_eq_add rfl a), rfl, rfl⟩, ⟨rfl, rfl, rfl⟩, ⟨rfl, rfl, rfl⟩,
      ⟨rfl, rfl, rfl⟩, ⟨rfl, rfl, rfl⟩, ⟨rfl, rfl, rfl⟩, ⟨rfl, rfl, rfl⟩, ⟨rfl, rfl, rfl⟩, ⟨rfl, rfl, rfl⟩,
      ⟨rfl, rfl, rfl⟩, ⟨rfl, rfl, rfl⟩, ⟨rfl, rfl, rfl⟩, nofun⟩
  exact ⟨hmeans.fits, hmeans.traps_of_read, hmeans.read⟩

/-- Settles O23: each instruction loads A with a value, COMA alone with C; where the claim says Z by the old A, the result is $00 exactly there. -/
theorem accumulatorOperations : Obligations.AccumulatorOperations := by
  unfold Obligations.AccumulatorOperations
  intro s ii
  have hinc : zeroFlag (s.a + 1) = decide (s.a = 0xFF#8) := zeroFlag_eq_decide (by bv_omega)
  have hdec : zeroFlag (s.a - 1) = decide (s.a = 0x01#8) := zeroFlag_eq_decide (by bv_omega)
  have hcom : ~~~s.a = 0xFF#8 - s.a := (BitVec.allOnes_sub_eq_not s.a).symm
  have hcomz : zeroFlag (~~~s.a) = decide (s.a = 0xFF#8) := zeroFlag_eq_decide (by rw [hcom]; bv_omega)
  refine ⟨⟨rfl, rfl, rfl⟩, ⟨rfl, rfl, rfl⟩, ⟨rfl, rfl, rfl⟩, ⟨rfl, rfl, rfl⟩, runs_tsta s, ?inca, ?deca, ⟨rfl, rfl, rfl⟩, ?coma⟩
  case inca => rw [← hinc]; exact ⟨rfl, rfl, rfl⟩
  case deca => rw [← hdec]; exact ⟨rfl, rfl, rfl⟩
  case coma => rw [← hcomz, ← hcom]; exact ⟨rfl, rfl, rfl⟩

/-! ## The words of the listings -/

/-- Settles O6: the words are those the encoder gives, and the decoder gives back what it encodes. -/
theorem listingWordsDecode : Obligations.ListingWordsDecode := by
  unfold Obligations.ListingWordsDecode
  have hdecode (i : Instr) (hc : isCommand i = false) (hw : WellFormed i = true) : decode (encode i) = .decoded i [] := by
    simpa using decodeEncodeRoundTrip i [] hc hw
  exact ⟨hdecode (.ldaSrt 0x1A) rfl rfl, hdecode (.movImm 0x5A 0x1A) rfl rfl, hdecode (.bset 0 0x08) rfl rfl, hdecode (.addTny 0x8) rfl rfl,
    hdecode (.eorImm 0x5A) rfl rfl, hdecode .rora rfl rfl, hdecode (.brclrIx 7 0xFD) rfl rfl, hdecode (.jsr 0x10B5) rfl rfl, hdecode .wait rfl rfl⟩

end Sys2Proof.Machine
end

section
/-! PROOFS. Arithmetic: what `add8` and `sub8` give as exact sums and differences, and with it O21, O22, O20 and the memory forms, O17, O18, O19 and O15. -/

namespace Sys2Proof.Machine

/-! ## The exact sum and the exact difference (41_math R170) -/

/-- The carry and the result are the two digits of the sum to base 256. -/
theorem add8_exact (a m : Byte) (c : Bool) :
    (add8 a m c).2.toNat * 256 + (add8 a m c).1.toNat = a.toNat + m.toNat + c.toNat := by
  have hc := c.toNat_le
  simp only [add8, BitVec.toNat_ofNat]
  by_cases h : 256 ≤ a.toNat + m.toNat + c.toNat
  · simp only [h, decide_true, Bool.toNat_true]
    omega
  · simp only [h, decide_false, Bool.toNat_false]
    omega

theorem sub8_fst (a m : Byte) (c : Bool) : (sub8 a m c).1 = a - m - BitVec.ofNat 8 c.toNat := by
  rw [← BitVec.toNat_inj]
  simp only [sub8, BitVec.toNat_ofInt, BitVec.toNat_sub, BitVec.toNat_ofNat]
  omega

theorem sub8_snd (a m : Byte) (c : Bool) : (sub8 a m c).2 = decide (a.toNat < m.toNat + c.toNat) :=
  decide_eq_decide.mpr (by omega)

/-- The result is the difference, with 256 borrowed where the borrow is set. -/
theorem sub8_exact (a m : Byte) (c : Bool) :
    (sub8 a m c).1.toNat + m.toNat + c.toNat = (sub8 a m c).2.toNat * 256 + a.toNat := by
  have hc := c.toNat_le
  simp only [sub8_snd, sub8_fst, BitVec.toNat_sub, BitVec.toNat_ofNat]
  by_cases h : a.toNat < m.toNat + c.toNat
  · simp only [h, decide_true, Bool.toNat_true]
    omega
  · simp only [h, decide_false, Bool.toNat_false]
    omega

/-! ## The Boolean formulae (41_math R197) -/

theorem getLsbD_seven (v : Byte) : v.getLsbD 7 = decide (128 ≤ v.toNat) :=
  v.msb_eq_getLsbD_last.symm.trans v.msb_eq_decide

theorem zeroFlag_eq_bits (r : Byte) :
    zeroFlag r = (!r.getLsbD 7 && !r.getLsbD 6 && !r.getLsbD 5 && !r.getLsbD 4 && !r.getLsbD 3 && !r.getLsbD 2 && !r.getLsbD 1 && !r.getLsbD 0) := by
  rw [Bool.eq_iff_iff, zeroFlag, beq_iff_eq]
  constructor
  case mp =>
    rintro rfl
    rfl
  case mpr =>
    intro hbits
    ext i hi
    simp only [Bool.and_eq_true, Bool.not_eq_true', BitVec.getLsbD_eq_getElem, Nat.reduceLT] at hbits
    grind

theorem add8_snd_eq_bits (a m : Byte) (c : Bool) :
    (add8 a m c).2 = (a.getLsbD 7 && m.getLsbD 7 || m.getLsbD 7 && !(add8 a m c).1.getLsbD 7 || !(add8 a m c).1.getLsbD 7 && a.getLsbD 7) := by
  have hexact := add8_exact a m c
  have hc := c.toNat_le
  generalize add8 a m c = r at hexact ⊢
  obtain ⟨result, carry⟩ := r
  simp only [getLsbD_seven]
  cases carry <;> simp at hexact ⊢ <;> omega

theorem sub8_snd_eq_bits (a m : Byte) (c : Bool) :
    (sub8 a m c).2 = (!a.getLsbD 7 && m.getLsbD 7 || m.getLsbD 7 && (sub8 a m c).1.getLsbD 7 || (sub8 a m c).1.getLsbD 7 && !a.getLsbD 7) := by
  have hexact := sub8_exact a m c
  have hc := c.toNat_le
  generalize sub8 a m c = r at hexact ⊢
  obtain ⟨result, borrow⟩ := r
  simp only [getLsbD_seven]
  cases borrow <;> simp at hexact ⊢ <;> omega

/-- Settles O21: with bit 7 of a byte read as "128 or more", the formulae for C follow from the exact sum and difference. -/
theorem carryFormulas : Obligations.CarryFormulas := by
  unfold Obligations.CarryFormulas
  exact ⟨fun a m c => ⟨add8_snd_eq_bits a m c, sub8_snd_eq_bits a m c⟩, zeroFlag_eq_bits⟩

/-! ## Two bytes (41_math R198) -/

theorem add8_two_bytes (h l h' l' : Byte) :
    (add8 h h' (add8 l l' false).2).2.toNat * 65536 + (add8 h h' (add8 l l' false).2).1.toNat * 256 + (add8 l l' false).1.toNat =
      (h.toNat * 256 + l.toNat) + (h'.toNat * 256 + l'.toNat) := by
  have hlow := add8_exact l l' false
  have hhigh := add8_exact h h' (add8 l l' false).2
  rw [Bool.toNat_false] at hlow
  linear_combination 256 * hhigh + hlow

theorem sub8_two_bytes (h l h' l' : Byte) :
    (sub8 h h' (sub8 l l' false).2).1.toNat * 256 + (sub8 l l' false).1.toNat + (h'.toNat * 256 + l'.toNat) =
      (sub8 h h' (sub8 l l' false).2).2.toNat * 65536 + (h.toNat * 256 + l.toNat) := by
  have hlow := sub8_exact l l' false
  have hhigh := sub8_exact h h' (sub8 l l' false).2
  rw [Bool.toNat_false] at hlow
  linear_combination 256 * hhigh + hlow

/-- Settles O22: the second operation finds the carry of the first in C, which the load between them leaves. -/
theorem sixteenBitArithmeticByCarry : Obligations.SixteenBitArithmeticByCarry := by
  unfold Obligations.SixteenBitArithmeticByCarry
  intro s h l h' l'
  refine ⟨⟨_, _, _, rfl, rfl, rfl, ?sum⟩, ⟨_, _, _, rfl, rfl, rfl, ?difference⟩⟩
  case sum => exact add8_two_bytes h l h' l'
  case difference => exact sub8_two_bytes h l h' l'

/-! ## What A, C and Z take (41_math R170, R190) -/

theorem State.resultA_add8 (t : State) (a m : Byte) (c : Bool) :
    t.resultA (add8 a m c) = { t with a := BitVec.ofNat 8 (a.toNat + m.toNat + c.toNat), c := decide (256 ≤ a.toNat + m.toNat + c.toNat),
                                      z := decide ((a.toNat + m.toNat + c.toNat) % 256 = 0) } := by
  have hz : zeroFlag (add8 a m c).1 = decide ((a.toNat + m.toNat + c.toNat) % 256 = 0) :=
    zeroFlag_eq_decide (by rw [← BitVec.toNat_inj]; rfl)
  rw [State.resultA, hz]
  rfl

/-- Without a carry the result is the sum of bytes. -/
theorem State.resultA_add8_false (t : State) (a m : Byte) :
    t.resultA (add8 a m false) = { t with a := a + m, c := decide (256 ≤ a.toNat + m.toNat), z := decide (a + m = 0#8) } := by
  have hsum : (add8 a m false).1 = a + m := by simp [add8, BitVec.ofNat_add]
  rw [State.resultA, hsum]
  rfl

theorem State.resultA_sub8 (t : State) (a m : Byte) (c : Bool) :
    t.resultA (sub8 a m c) = { t with a := a - m - BitVec.ofNat 8 c.toNat, c := decide (a.toNat < m.toNat + c.toNat),
                                      z := decide (a - m - BitVec.ofNat 8 c.toNat = 0#8) } := by
  rw [State.resultA, sub8_fst, sub8_snd]
  rfl

theorem zeroFlag_sub8_false (a m : Byte) : zeroFlag (sub8 a m false).1 = decide (a = m) :=
  zeroFlag_eq_decide (by rw [sub8_fst]; bv_omega)

/-- Without a borrow in, the flags compare the bytes. -/
theorem State.resultA_sub8_false (t : State) (a m : Byte) :
    t.resultA (sub8 a m false) = { t with a := a - m, c := decide (a < m), z := decide (a = m) } := by
  rw [State.resultA, zeroFlag_sub8_false, sub8_fst, sub8_snd]
  exact congrArg (fun r => { t with a := r, c := decide (a < m), z := decide (a = m) }) (BitVec.sub_zero _)

theorem State.compare_sub8_false (t : State) (a m : Byte) :
    t.compare (sub8 a m false) = { t with c := decide (a < m), z := decide (a = m) } := by
  rw [State.compare, zeroFlag_sub8_false, sub8_snd]
  rfl

/-! ## Immediate operands (41_math R171, R173, R176, R178, R190) -/

/-- Settles O20: each instruction is its operation at the state past its bytes. -/
theorem arithmeticImmediate : Obligations.ArithmeticImmediate := by
  unfold Obligations.ArithmeticImmediate
  intro s ii
  exact ⟨⟨rfl, rfl, congrArg Host.Outcome.next ((s.advance 2).resultA_add8 s.a ii s.c)⟩,
    ⟨rfl, rfl, congrArg Host.Outcome.next ((s.advance 2).resultA_add8_false s.a ii)⟩,
    ⟨rfl, rfl, congrArg Host.Outcome.next ((s.advance 2).resultA_sub8 s.a ii s.c)⟩,
    ⟨rfl, rfl, congrArg Host.Outcome.next ((s.advance 2).resultA_sub8_false s.a ii)⟩,
    ⟨rfl, rfl, congrArg Host.Outcome.next ((s.advance 2).compare_sub8_false s.a ii)⟩⟩

/-! ## An operand in memory: ADC, ADD, SBC, SUB, CMP (41_math R172–R194) -/

theorem tnyOp_eq_add {base : Byte} (h : base &&& 0x0F#8 = 0#8) (a : BitVec 4) : tnyOp base a = base + a.setWidth 8 :=
  or_eq_add_of_mask h (by revert a; decide)

/-- The form reads its operand and combines A with the byte by `op`; the number is what goes in at the carry, C or nothing. -/
inductive Form.Combines (f : Form) (op : Byte → Byte → Bool → Byte × Bool) (s : State) : ℕ → Prop where
  | withCarry (h : f.Means s (readOperand f.len f.operand (fun m t => t.resultA (op t.a m t.c)) s)) : f.Combines op s s.c.toNat
  | alone (h : f.Means s (readOperand f.len f.operand (fun m t => t.resultA (op t.a m false)) s)) : f.Combines op s 0

/-- The read leaves A and C, so that the operation finds them as they were. -/
theorem Form.Combines.runs {f : Form} {op : Byte → Byte → Bool → Byte × Bool} {s : State} {n : ℕ} (h : f.Combines op s n) :
    f.fits ∧ f.traps s ∧ ∃ c : Bool, n = c.toNat ∧
      (s.legal f.operand → exec f.instr s = .next (((s.afterOperand f.operand).advance f.len).resultA (op s.a (s.operandByte f.operand) c))) := by
  cases h with
  | withCarry h => exact ⟨h.fits, h.traps_of_read, s.c, rfl, h.read⟩
  | alone h => exact ⟨h.fits, h.traps_of_read, false, rfl, h.read⟩

/-- Settles O17: each form adds its operand to A, ADC with C. -/
theorem addFromMemory : Obligations.AddFromMemory := by
  unfold Obligations.AddFromMemory
  intro s dd a f hf
  have hcombines : f.1.Combines add8 s f.2 := by
    revert f
    simp only [List.forall_mem_cons]
    exact ⟨.withCarry ⟨rfl, rfl, rfl⟩, .withCarry ⟨rfl, rfl, rfl⟩, .withCarry ⟨rfl, rfl, rfl⟩,
      .alone ⟨rfl, rfl, rfl⟩, .alone ⟨congrArg ([·]) (tnyOp_eq_add rfl a), rfl, rfl⟩, .alone ⟨rfl, rfl, rfl⟩, .alone ⟨rfl, rfl, rfl⟩, nofun⟩
  obtain ⟨hfits, htraps, c, hc, hexec⟩ := hcombines.runs
  refine ⟨hfits, htraps, fun hl => ?_⟩
  rw [hexec hl, State.resultA_add8, hc]
  rfl

/-- Settles O18: each form subtracts its operand from A, SBC with C. -/
theorem subtractFromMemory : Obligations.SubtractFromMemory := by
  unfold Obligations.SubtractFromMemory
  intro s dd a f hf
  have hcombines : f.1.Combines sub8 s f.2 := by
    revert f
    simp only [List.forall_mem_cons]
    exact ⟨.withCarry ⟨rfl, rfl, rfl⟩, .withCarry ⟨rfl, rfl, rfl⟩, .withCarry ⟨rfl, rfl, rfl⟩,
      .alone ⟨rfl, rfl, rfl⟩, .alone ⟨congrArg ([·]) (tnyOp_eq_add rfl a), rfl, rfl⟩, .alone ⟨rfl, rfl, rfl⟩, .alone ⟨rfl, rfl, rfl⟩, nofun⟩
  obtain ⟨hfits, htraps, c, hc, hexec⟩ := hcombines.runs
  refine ⟨hfits, htraps, fun hl => ?_⟩
  rw [hexec hl, State.resultA_sub8, hc]
  rfl

/-- Settles O19: each form reads its operand and keeps of the difference the flags alone. -/
theorem compareWithMemory : Obligations.CompareWithMemory := by
  unfold Obligations.CompareWithMemory
  intro s dd f hf
  have hmeans : f.Means s (readOperand f.len f.operand State.cmp s) := by
    revert f
    simp only [List.forall_mem_cons]
    exact ⟨⟨rfl, rfl, rfl⟩, ⟨rfl, rfl, rfl⟩, ⟨rfl, rfl, rfl⟩, nofun⟩
  exact ⟨hmeans.fits, hmeans.traps_of_read,
    fun hl => (hmeans.read hl).trans (congrArg Host.Outcome.next (State.compare_sub8_false _ _ _))⟩

/-! ## Memory counted up and down: INC, DEC (41_math R181–R185, R193) -/

/-- Settles O15: each form writes its operand back one higher or lower, and Z comes from the byte written. -/
theorem incrementAndDecrementMemory : Obligations.IncrementAndDecrementMemory := by
  unfold Obligations.IncrementAndDecrementMemory
  intro s dd a hm hstolen f hf
  have hmeans : f.1.Means s (modifyOperand f.1.len f.1.operand f.2 State.testZ s) := by
    revert f
    simp only [List.forall_mem_cons]
    exact ⟨⟨rfl, rfl, rfl⟩, ⟨congrArg ([·]) (tnyOp_eq_add rfl a), rfl, rfl⟩, ⟨rfl, rfl, rfl⟩, ⟨rfl, rfl, rfl⟩,
      ⟨rfl, rfl, rfl⟩, ⟨congrArg ([·]) (tnyOp_eq_add rfl a), rfl, rfl⟩, ⟨rfl, rfl, rfl⟩, ⟨rfl, rfl, rfl⟩, nofun⟩
  refine ⟨hmeans.fits, hmeans.traps_of_modify, fun hl => ⟨_, hmeans.runs.trans (modifyOperand_legal hstolen hl), ?_⟩⟩
  rw [State.touch_afterRead]
  have hstored := State.byteStored_store (s := (s.advance f.1.len).afterRead (s.resolve f.1.operand)) hm (s.resolve f.1.operand)
    (f.2 (s.operandByte f.1.operand))
  exact (hstored.testZ _).of_same_bytes rfl rfl rfl rfl

end Sys2Proof.Machine
end

section
/-! PROOFS. Shifts and rotations: what `shiftLeft8` and `shiftRight8` give as numbers, A beside C as one rotating word of nine bits, and with both O25. -/

namespace Sys2Proof.Machine

/-! ## The shifts as numbers (43_shift_rotate R211–R214) -/

theorem shiftLeft8_fst (v : Byte) (c : Bool) : (shiftLeft8 v c).1 = BitVec.ofNat 8 (2 * v.toNat + c.toNat) := by
  rw [← BitVec.toNat_inj]
  simp only [shiftLeft8, BitVec.append_ofBool, BitVec.toNat_concat, BitVec.extractLsb'_toNat, BitVec.toNat_ofNat, Nat.shiftRight_zero]
  have hc := c.toNat_le
  omega

theorem shiftLeft8_snd (v : Byte) (c : Bool) : (shiftLeft8 v c).2 = decide (256 ≤ 2 * v.toNat) :=
  (getLsbD_seven v).trans (decide_eq_decide.mpr (by omega))

theorem shiftRight8_fst (v : Byte) (c : Bool) : (shiftRight8 v c).1 = BitVec.ofNat 8 (128 * c.toNat + v.toNat / 2) := by
  have hc := c.toNat_le
  have hv := v.isLt
  rw [← BitVec.toNat_inj]
  change (BitVec.cons c (v.extractLsb' 1 7)).toNat = _
  simp only [BitVec.toNat_cons', BitVec.extractLsb'_toNat, BitVec.toNat_ofNat, Nat.shiftLeft_eq, Nat.shiftRight_eq_div_pow]
  omega

theorem shiftRight8_snd (v : Byte) (c : Bool) : (shiftRight8 v c).2 = decide (v.toNat % 2 = 1) := by
  simp [shiftRight8, BitVec.getLsbD, Nat.testBit_zero]

/-! ## What A, C and Z take (43_shift_rotate R210) -/

theorem State.resultA_shiftLeft8 (t : State) (v : Byte) (c : Bool) :
    t.resultA (shiftLeft8 v c) = { t with a := BitVec.ofNat 8 (2 * v.toNat + c.toNat), c := decide (256 ≤ 2 * v.toNat),
                                          z := decide ((2 * v.toNat + c.toNat) % 256 = 0) } := by
  have hz : zeroFlag (shiftLeft8 v c).1 = decide ((2 * v.toNat + c.toNat) % 256 = 0) :=
    zeroFlag_eq_decide (by rw [shiftLeft8_fst, ← BitVec.toNat_inj]; rfl)
  rw [State.resultA, hz, shiftLeft8_fst, shiftLeft8_snd]

/-- The result to the right needs no reduction: it is below 256, and so $00 only where the number is 0. -/
theorem State.resultA_shiftRight8 (t : State) (v : Byte) (c : Bool) :
    t.resultA (shiftRight8 v c) = { t with a := BitVec.ofNat 8 (128 * c.toNat + v.toNat / 2), c := decide (v.toNat % 2 = 1),
                                           z := decide (128 * c.toNat + v.toNat / 2 = 0) } := by
  have hc := c.toNat_le
  have hbyte : (128 * c.toNat + v.toNat / 2) % 256 = 128 * c.toNat + v.toNat / 2 := Nat.mod_eq_of_lt (by omega)
  have hz : zeroFlag (shiftRight8 v c).1 = decide (128 * c.toNat + v.toNat / 2 = 0) :=
    zeroFlag_eq_decide (by rw [shiftRight8_fst, ← BitVec.toNat_inj, BitVec.toNat_ofNat, hbyte]; rfl)
  rw [State.resultA, hz, shiftRight8_fst, shiftRight8_snd]

/-! ## Rotation through the carry (43_shift_rotate R213) -/

/-- C above bit 7 of A: the nine bits a rotation turns. -/
def carryWord (r : Byte × Bool) : BitVec 9 := BitVec.cons r.2 r.1

theorem carryWord_injective : Function.Injective carryWord := by
  rintro ⟨v, c⟩ ⟨w, d⟩ h
  have hcarry := congrArg BitVec.msb h
  have hbyte := congrArg (BitVec.setWidth 8) h
  simp only [carryWord, BitVec.msb_cons, BitVec.setWidth_cons] at hcarry hbyte
  rw [hcarry, hbyte]

/-- One step to the left through the carry turns the word by one place: C comes in at bit 0, bit 7 takes its place, and every other bit moves up. -/
theorem carryWord_shiftLeft8 (r : Byte × Bool) : carryWord (shiftLeft8 r.1 r.2) = (carryWord r).rotateLeft 1 := by
  obtain ⟨v, c⟩ := r
  ext i hi
  simp only [carryWord, shiftLeft8, BitVec.append_ofBool, BitVec.getElem_cons, BitVec.getElem_concat, BitVec.getElem_rotateLeft,
    BitVec.getElem_extractLsb']
  cases i with
  | zero => simp
  | succ j =>
    obtain rfl | hj : j = 7 ∨ j < 7 := by omega
    · simp
    · have h7 : j ≠ 7 := hj.ne
      have h8 : j ≠ 8 := by omega
      simp [h7, h8, BitVec.getLsbD_eq_getElem (show j < 8 by omega)]

theorem rotateLeft_zero {w : ℕ} (x : BitVec w) : x.rotateLeft 0 = x := by
  ext i hi
  simp [BitVec.getElem_rotateLeft]

theorem rotateLeft_one_iterate {w : ℕ} (x : BitVec w) (k : ℕ) : (BitVec.rotateLeft · 1)^[k] x = x.rotateLeft k := by
  induction k with
  | zero => exact (rotateLeft_zero x).symm
  | succ k ih =>
    rw [Function.iterate_succ_apply', ih]
    refine BitVec.eq_of_getMsbD_eq fun i hi => ?_
    have hlt : (1 + i) % w < w := Nat.mod_lt _ (by omega)
    simp only [BitVec.getMsbD_rotateLeft, hlt, hi, decide_true, Bool.true_and, Nat.add_mod_mod, Nat.add_assoc]

/-- Nine turns of nine bits are a full turn. -/
theorem shiftLeft8_iterate_nine (r : Byte × Bool) : (fun r : Byte × Bool => shiftLeft8 r.1 r.2)^[9] r = r := by
  have hturns : Function.Semiconj carryWord (fun r => shiftLeft8 r.1 r.2) (BitVec.rotateLeft · 1) := carryWord_shiftLeft8
  apply carryWord_injective
  calc carryWord ((fun r : Byte × Bool => shiftLeft8 r.1 r.2)^[9] r)
    _ = (BitVec.rotateLeft · 1)^[9] (carryWord r) := hturns.iterate_right 9 r
    _ = (carryWord r).rotateLeft 9 := rotateLeft_one_iterate _ 9
    _ = (carryWord r).rotateLeft 0 := BitVec.rotateLeft_mod_eq_rotateLeft.symm
    _ = carryWord r := rotateLeft_zero _

/-! ## The instructions -/

/-- Settles O25: each instruction is its shift at the state past its byte, LSLA and LSRA with 0 in the place of C. -/
theorem shiftsAndRotates : Obligations.ShiftsAndRotates := by
  unfold Obligations.ShiftsAndRotates
  intro s
  refine ⟨?lsla, ?lsra, ?rola, ?rora, shiftLeft8_iterate_nine (s.a, s.c)⟩
  case lsla =>
    have hresult := (s.advance 1).resultA_shiftLeft8 s.a false
    simp only [List.forall_mem_cons]
    exact ⟨⟨rfl, rfl, congrArg Host.Outcome.next hresult⟩, ⟨rfl, rfl, congrArg Host.Outcome.next hresult⟩, nofun⟩
  case lsra =>
    have hvalue : 128 * false.toNat + s.a.toNat / 2 = s.a.toNat / 2 := Nat.zero_add _
    have hresult := (s.advance 1).resultA_shiftRight8 s.a false
    simp only [hvalue] at hresult
    exact ⟨rfl, rfl, congrArg Host.Outcome.next hresult⟩
  case rola => exact ⟨rfl, rfl, congrArg Host.Outcome.next ((s.advance 1).resultA_shiftLeft8 s.a s.c)⟩
  case rora => exact ⟨rfl, rfl, congrArg Host.Outcome.next ((s.advance 1).resultA_shiftRight8 s.a s.c)⟩

end Sys2Proof.Machine
end

section
/-! PROOFS. Branches, loops and subroutines: what a branch decided by a condition makes of a state, and with it O26, O27, O28, O29 and O30. -/

namespace Sys2Proof.Machine

/-! ## A branch by its condition (44_branch_loop R220) -/

/-- The branch in the words of the tables; PC is already past the instruction. -/
theorem State.branchIf_eq (s : State) (taken : Bool) (rr : Byte) :
    s.branchIf taken rr = if taken then { s with pc := s.pc + rr.signExtend 14, stores := [] } else s := rfl

/-- BRSET and BRCLR: C takes the tested bit, which is `want` exactly where the branch is taken (44_branch_loop R230, R231). -/
theorem State.branchOnBit_eq (s : State) (n : BitVec 3) (want : Bool) (rr m : Byte) :
    s.branchOnBit n want rr m =
      if m.getLsbD n.toNat = want then { s with pc := s.pc + rr.signExtend 14, c := want, stores := [] } else { s with c := !want } := by
  unfold State.branchOnBit testBit
  by_cases hbit : m.getLsbD n.toNat = want
  · rw [if_pos hbit, hbit, State.branchIf_eq, if_pos (beq_self_eq_true want)]
  · rw [if_neg hbit, State.branchIf_eq, if_neg (mt beq_iff_eq.mp hbit), Bool.eq_not_of_ne hbit]

/-- CBEQ: the branch goes by A and the operand (44_branch_loop R233). -/
theorem State.branchIfA_eq (s : State) (rr m : Byte) :
    s.branchIfA rr m = if s.a = m then { s with pc := s.pc + rr.signExtend 14, stores := [] } else s :=
  (s.branchIf_eq _ rr).trans (if_congr beq_iff_eq rfl rfl)

/-- DBNZ with the result $00 goes on with the next instruction (44_branch_loop R235). -/
theorem State.branchIfNonzero_zero (s : State) (rr : Byte) : s.branchIfNonzero rr 0#8 = s := rfl

theorem State.branchIfNonzero_of_ne {r : Byte} (h : r ≠ 0#8) (s : State) (rr : Byte) :
    s.branchIfNonzero rr r = { s with pc := s.pc + rr.signExtend 14, stores := [] } :=
  (s.branchIf_eq _ rr).trans (if_pos (bne_iff_ne.mpr h))

/-- A branch after a store concerns no byte: it moves PC and clears the record of stores, or does nothing. -/
theorem ByteStored.branchIfNonzero {s base t : State} {p : Addr} {v : Byte} (h : ByteStored s base t p v) (rr r : Byte) :
    ByteStored s { base with pc := if r = 0#8 then base.pc else base.pc + rr.signExtend 14, stores := if r = 0#8 then base.stores else [] }
      (t.branchIfNonzero rr r) p v := by
  by_cases hr : r = 0#8
  · subst hr
    exact h
  · rw [State.branchIfNonzero_of_ne hr, if_neg hr, if_neg hr]
    exact { fields := congrArg (fun u : State => { u with pc := u.pc + rr.signExtend 14, stores := [] }) h.fields, byte := h.byte, others := h.others }

/-! ## Branches on the flags (44_branch_loop R222–R229) -/

/-- An instruction of two bytes that does nothing but branch. -/
theorem inherent_branchIf (s : State) (taken : Bool) (rr : Byte) :
    inherent 2 (State.branchIf · taken rr) s =
      .next (if taken then { s with pc := s.pc + 2 + rr.signExtend 14, stores := [] } else { s with pc := s.pc + 2 }) :=
  congrArg Host.Outcome.next ((s.advance 2).branchIf_eq taken rr)

/-- Settles O26: each instruction branches by its condition, BRN as BRA with the offset $00. -/
theorem simpleBranches : Obligations.SimpleBranches := by
  unfold Obligations.SimpleBranches
  intro s rr
  have hbranch (taken : Bool) := inherent_branchIf s taken rr
  refine ⟨?conditions, ?brn⟩
  case conditions =>
    simp only [List.forall_mem_cons]
    exact ⟨⟨rfl, rfl, hbranch true⟩, ⟨rfl, rfl, hbranch !s.c⟩, ⟨rfl, rfl, hbranch s.c⟩, ⟨rfl, rfl, hbranch !s.z⟩, ⟨rfl, rfl, hbranch s.z⟩,
      ⟨rfl, rfl, hbranch !s.c⟩, ⟨rfl, rfl, hbranch s.c⟩, nofun⟩
  case brn =>
    have htarget : s.pc + 2 + (0#8).signExtend 14 = s.pc + 2 := BitVec.add_zero _
    have hrun := inherent_branchIf s true 0#8
    rw [if_pos rfl, htarget] at hrun
    exact ⟨rfl, rfl, hrun⟩

/-! ## Branches on a bit or a byte read (44_branch_loop R230–R236) -/

/-- Settles O27: each form reads its operand and branches by one bit of the byte. -/
theorem branchOnBit : Obligations.BranchOnBit := by
  unfold Obligations.BranchOnBit
  intro s n dd rr f hf
  obtain ⟨hlen, hmeans⟩ : f.1.len = 3 ∧ f.1.Means s (readOperand f.1.len f.1.operand (State.branchOnBit n f.2 rr) s) := by
    have hbrset (d : Byte) := congrArg ([·, d, rr]) (bitOp_eq_add (base := 0x00) rfl n)
    have hbrclr (d : Byte) := congrArg ([·, d, rr]) (bitOp_eq_add (base := 0x01) rfl n)
    revert f
    simp only [List.forall_mem_cons]
    exact ⟨⟨rfl, hbrset _, rfl, rfl⟩, ⟨rfl, hbrset _, rfl, rfl⟩, ⟨rfl, hbrset _, rfl, rfl⟩,
      ⟨rfl, hbrclr _, rfl, rfl⟩, ⟨rfl, hbrclr _, rfl, rfl⟩, ⟨rfl, hbrclr _, rfl, rfl⟩, nofun⟩
  refine ⟨hmeans.fits, hmeans.traps_of_read, fun hl => ?_⟩
  rw [hmeans.read hl, hlen, State.branchOnBit_eq]
  rfl

/-- Settles O28: each form reads its operand, CBEQA has it in the instruction, and the branch goes by A and that byte. -/
theorem compareAndBranch : Obligations.CompareAndBranch := by
  unfold Obligations.CompareAndBranch
  intro s dd ii rr
  refine ⟨fun f hf => ?memory, ⟨rfl, rfl, congrArg Host.Outcome.next ((s.advance 3).branchIfA_eq rr ii)⟩⟩
  case memory =>
    obtain ⟨hlen, hmeans⟩ : f.len = 3 ∧ f.Means s (readOperand f.len f.operand (State.branchIfA rr) s) := by
      revert f
      simp only [List.forall_mem_cons]
      exact ⟨⟨rfl, rfl, rfl, rfl⟩, ⟨rfl, rfl, rfl, rfl⟩, ⟨rfl, rfl, rfl, rfl⟩, nofun⟩
    refine ⟨hmeans.fits, hmeans.traps_of_read, fun hl => ?_⟩
    rw [hmeans.read hl, hlen, State.branchIfA_eq]
    rfl

/-! ## Loops (44_branch_loop R235–R238) -/

/-- DBNZA does not branch where A was $01 (44_branch_loop R237). -/
theorem runs_dbnza (s : State) (rr : Byte) :
    Runs (.dbnza rr) [0x4B#8, rr] [.f, .p, .p, .p] s
      (if s.a = 1#8 then { s with pc := s.pc + 2, a := 0#8 } else { s with pc := s.pc + 2 + rr.signExtend 14, a := s.a - 1, stores := [] }) := by
  have hexec : exec (.dbnza rr) s = .next ({ s.advance 2 with a := s.a - 1 }.branchIfNonzero rr (s.a - 1)) := rfl
  refine ⟨rfl, rfl, hexec.trans (congrArg Host.Outcome.next ?_)⟩
  by_cases ha : s.a = 1#8
  · have hzero : s.a - 1 = 0#8 := by bv_omega
    rw [if_pos ha, hzero, State.branchIfNonzero_zero]
    rfl
  · have hne : s.a - 1 ≠ 0#8 := by bv_omega
    rw [if_neg ha, State.branchIfNonzero_of_ne hne]
    rfl

/-- Settles O29: each form writes its operand back one lower and branches by the byte written; DBNZA is `runs_dbnza`. -/
theorem decrementAndBranch : Obligations.DecrementAndBranch := by
  unfold Obligations.DecrementAndBranch
  intro s dd rr hm hstolen
  refine ⟨fun f hf => ?memory, runs_dbnza s rr⟩
  case memory =>
    obtain ⟨hlen, hmeans⟩ : f.len = 3 ∧ f.Means s (modifyOperand f.len f.operand (· - 1) (State.branchIfNonzero rr) s) := by
      revert f
      simp only [List.forall_mem_cons]
      exact ⟨⟨rfl, rfl, rfl, rfl⟩, ⟨rfl, rfl, rfl, rfl⟩, ⟨rfl, rfl, rfl, rfl⟩, nofun⟩
    refine ⟨hmeans.fits, hmeans.traps_of_modify, fun hl => ⟨_, hmeans.runs.trans (modifyOperand_legal hstolen hl), ?_⟩⟩
    rw [hlen, State.touch_afterRead]
    have hstored := State.byteStored_store (s := (s.advance 3).afterRead (s.resolve f.operand)) hm (s.resolve f.operand) (s.operandByte f.operand - 1)
    exact (hstored.branchIfNonzero rr _).of_same_bytes rfl rfl rfl rfl

/-! ## Jumps and subroutines (44_branch_loop R221, 45_subroutine R250–R252) -/

/-- The target is the low 14 bits of the two address bytes: bits 7 and 6 of the high one do not reach it (decision D2). -/
theorem extField_eq_setWidth (hh ll : Byte) : extField hh ll = (hh ++ ll).setWidth 14 :=
  (BitVec.setWidth_eq_extractLsb' (by decide)).symm

theorem decodeOp_jmp (hh ll : Byte) : decodeOp 0xBC#8 hh ll = .jmp ((hh ++ ll).setWidth 14) := congrArg Instr.jmp (extField_eq_setWidth hh ll)
theorem decodeOp_jsr (hh ll : Byte) : decodeOp 0xBD#8 hh ll = .jsr ((hh ++ ll).setWidth 14) := congrArg Instr.jsr (extField_eq_setWidth hh ll)

theorem exec_jmp (ea : Addr) (s : State) : exec (.jmp ea) s = .next { s with pc := ea, stores := [] } := rfl
theorem exec_jsr (ea : Addr) (s : State) : exec (.jsr ea) s = .next { s with pc := ea, spc := s.pc + 3, stores := [] } := rfl
theorem exec_bsr (rr : Byte) (s : State) :
    exec (.bsr rr) s = .next { s with pc := s.pc + 2 + rr.signExtend 14, spc := s.pc + 2, stores := [] } := rfl
theorem exec_rts (s : State) : exec .rts s = .next { s with pc := s.spc, stores := [] } := rfl

/-- Settles O30: each is a jump, the calls with the address after them in SPC. -/
theorem jumpsAndSubroutines : Obligations.JumpsAndSubroutines := by
  unfold Obligations.JumpsAndSubroutines
  intro s rr hh ll
  exact ⟨decodeOp_jmp hh ll, decodeOp_jsr hh ll, rfl, rfl, exec_jmp _ s, exec_jsr _ s, ⟨rfl, rfl, exec_bsr rr s⟩, ⟨rfl, rfl, exec_rts s⟩⟩

end Sys2Proof.Machine
end

section
/-! PROOFS. The two halves of the shadow program counter as numbers, and with them what SHA and SLA exchange: O31. -/

namespace Sys2Proof.Machine

/-! ## The halves of SPC (45_subroutine R253, R254) -/

theorem spcHigh_toNat (spc : Addr) : (spcHigh spc).toNat = spc.toNat / 256 := by
  simp only [spcHigh, BitVec.toNat_setWidth, BitVec.extractLsb'_toNat, Nat.shiftRight_eq_div_pow]
  omega

theorem spcLow_toNat (spc : Addr) : (spcLow spc).toNat = spc.toNat % 256 := by
  simp only [spcLow, BitVec.extractLsb'_toNat, Nat.shiftRight_zero]

/-- Six bits beside eight are the digits of SPC to base 256. -/
theorem toNat_half_append (high : BitVec 6) (low : Byte) : (high ++ low).toNat = high.toNat * 256 + low.toNat := by
  rw [BitVec.toNat_append, ← Nat.shiftLeft_add_eq_or_of_lt low.isLt, Nat.shiftLeft_eq]

/-- The most significant two bits of the byte are ignored. -/
theorem withSpcHigh_toNat (spc : Addr) (v : Byte) : (withSpcHigh spc v).toNat = v.toNat % 64 * 256 + spc.toNat % 256 := by
  simp only [withSpcHigh, toNat_half_append, BitVec.extractLsb'_toNat, Nat.shiftRight_zero]

theorem withSpcLow_toNat (spc : Addr) (v : Byte) : (withSpcLow spc v).toNat = spc.toNat / 256 * 256 + v.toNat := by
  simp only [withSpcLow, toNat_half_append, BitVec.extractLsb'_toNat, Nat.shiftRight_eq_div_pow]
  omega

/-! ## Two exchanges of the high half (45_subroutine R253) -/

/-- The old high half put back restores SPC. -/
theorem withSpcHigh_withSpcHigh_spcHigh (spc : Addr) (v : Byte) : withSpcHigh (withSpcHigh spc v) (spcHigh spc) = spc := by
  rw [← BitVec.toNat_inj, withSpcHigh_toNat, withSpcHigh_toNat, spcHigh_toNat]
  omega

theorem spcHigh_withSpcHigh (spc : Addr) (v : Byte) : spcHigh (withSpcHigh spc v) = v &&& 0x3F#8 := by
  have hmask : (v &&& 0x3F#8).toNat = v.toNat % 64 := Nat.and_two_pow_sub_one_eq_mod v.toNat 6
  rw [← BitVec.toNat_inj, spcHigh_toNat, withSpcHigh_toNat, hmask]
  omega

/-! ## The instructions -/

theorem exec_sha (s : State) : exec .sha s = .next { s with pc := s.pc + 1, a := spcHigh s.spc, spc := withSpcHigh s.spc s.a } := rfl
theorem exec_sla (s : State) : exec .sla s = .next { s with pc := s.pc + 1, a := spcLow s.spc, spc := withSpcLow s.spc s.a } := rfl

/-- Settles O31: A takes one half of SPC and that half takes A; the second SHA puts the old high half back. -/
theorem shadowCounterSwaps : Obligations.ShadowCounterSwaps := by
  unfold Obligations.ShadowCounterSwaps
  intro s
  refine ⟨⟨_, ⟨rfl, rfl, exec_sha s⟩, rfl, spcHigh_toNat s.spc, withSpcHigh_toNat s.spc s.a, _, exec_sha _, ?restored, ?masked⟩,
    ⟨_, ⟨rfl, rfl, exec_sla s⟩, rfl, spcLow_toNat s.spc, withSpcLow_toNat s.spc s.a⟩⟩
  case restored => exact withSpcHigh_withSpcHigh_spcHigh s.spc s.a
  case masked => exact spcHigh_withSpcHigh s.spc s.a

end Sys2Proof.Machine
end

section
/-! PROOFS. Flags, no operation and the change of mode: what NOP, SEC, CLC, BGND, WAIT and STOP make of a state, and with it O32, O33 and O34. -/

namespace Sys2Proof.Machine

/-! ## NOP, SEC and CLC (46_misc R260–R262) -/

theorem exec_nop (s : State) : exec .nop s = .next { s with pc := s.pc + 1 } := rfl
theorem exec_sec (s : State) : exec .sec s = .next { s with pc := s.pc + 1, c := true } := rfl
theorem exec_clc (s : State) : exec .clc s = .next { s with pc := s.pc + 1, c := false } := rfl

/-- Settles O32: NOP is the advance of PC alone, SEC and CLC write C besides. -/
theorem flagAndNoOperation : Obligations.FlagAndNoOperation := by
  unfold Obligations.FlagAndNoOperation
  intro s
  exact ⟨⟨rfl, rfl, exec_nop s⟩, ⟨rfl, rfl, exec_sec s⟩, ⟨rfl, rfl, exec_clc s⟩⟩

/-! ## BGND (46_misc R263, 60_exceptions R324) -/

/-- BGND looks at ENBDM with PC already past it. -/
theorem exec_bgnd (s : State) : exec .bgnd s = .next (s.advance 1).stopForDebug := rfl

/-- A reset gives PC its reset value, so nothing of the abandoned instruction's PC is left (70_reset_and_hazards R370). -/
theorem takeReset_advance (cause : ResetCause) (s : State) (len : Addr) : takeReset cause (s.advance len) = takeReset cause s := rfl

/-- Settles O33: the two outcomes of `State.stopForDebug`, with PC advanced. -/
theorem backgroundInstruction : Obligations.BackgroundInstruction := by
  unfold Obligations.BackgroundInstruction
  intro s
  refine ⟨rfl, rfl, fun henabled => ?background, fun hdisabled => ?reset⟩
  case background =>
    have henters : (s.advance 1).stopForDebug = (s.advance 1).enterBackground := if_pos henabled
    rw [exec_bgnd, henters]
    rfl
  case reset =>
    have hresets : (s.advance 1).stopForDebug = takeReset .illegalOpcode (s.advance 1) := if_neg (Bool.eq_false_iff.mp hdisabled)
    rw [exec_bgnd, hresets, takeReset_advance]

/-! ## WAIT and STOP (46_misc R264, R265, 60_exceptions R340) -/

/-- Whether the CPU sleeps at all goes by the wake-up request as it stands, with PC already past the instruction (decision D9). -/
theorem inherent_sleep (s : State) (m : Mode) :
    inherent 1 (State.sleep m) s =
      .next (if s.wakeRequest then { s with pc := s.pc + 1, afterSleep := true }
        else { s with pc := s.pc + 1, mode := m, bdcscr := { s.bdcscr with ws := true }, afterSleep := true }) := rfl

/-- Settles O34: WAIT and STOP differ in the mode they enter and in nothing else. -/
theorem waitAndStop : Obligations.WaitAndStop := by
  unfold Obligations.WaitAndStop
  intro s
  simp only [List.forall_mem_cons]
  exact ⟨⟨rfl, rfl, inherent_sleep s .wait⟩, ⟨rfl, rfl, inherent_sleep s .stop⟩, nofun⟩

end Sys2Proof.Machine
end

section
/-! PROOFS. The bytes of the debug commands, received one after the other, and the 16-bit items among them: O3. -/

namespace Sys2Proof.Machine

/-! ## 16-bit items (47_bdc_commands R272, R277) -/

theorem hiByte_append_loByte (w : Word16) : hiByte w ++ loByte w = w :=
  (BitVec.extractLsb'_append_extractLsb'_eq_extractLsb' rfl).trans BitVec.extractLsb'_eq_self

/-- A field that names an address has it in its low bits (20_memory R87). -/
theorem bdcAddress_eq_extractLsb' (w : Word16) : bdcAddress w = w.extractLsb' 0 14 := BitVec.setWidth_eq_extractLsb' (by decide)

/-! ## Receiving a command (47_bdc_commands R276, R278) -/

/-- The items still to come, received after those that have come. -/
theorem Serial.feed_receiving {code : Byte} {i : Instr} {items got : List Byte} (hne : items ≠ [])
    (hn : commandItems code = some (got.length + items.length)) (hd : decodeCommand code (got ++ items) = some i) :
    Serial.feed (.receiving code got) items = (.idle, some i) := by
  induction items generalizing got with
  | nil => exact absurd rfl hne
  | cons b items ih =>
    cases items with
    | nil =>
      have hlast : Serial.receive (.receiving code got) b = (.idle, some i) := by rw [← hd]; exact if_pos hn
      simp only [Serial.feed, hlast]
    | cons b' items =>
      have hmore : Serial.receive (.receiving code got) b = (.receiving code (got ++ [b]), none) := by simp [Serial.receive, hn]
      simp only [Serial.feed, hmore]
      refine ih (List.cons_ne_nil _ _) (hn.trans (congrArg some ?_)) (by simpa using hd)
      simp only [List.length_append, List.length_cons, List.length_nil]
      omega

/-- A code and all its items make their command. -/
theorem Serial.feed_command {code : Byte} {items : List Byte} {i : Instr} (hn : commandItems code = some items.length)
    (hd : decodeCommand code items = some i) : Serial.feed .idle (code :: items) = (.idle, some i) := by
  cases items with
  | nil =>
    have hlast : Serial.receive .idle code = (.idle, some i) := by simp [Serial.receive, hn, hd]
    simp only [Serial.feed, hlast]
  | cons b items =>
    have hmore : Serial.receive .idle code = (.receiving code [], none) := by simp [Serial.receive, hn]
    simp only [Serial.feed, hmore]
    exact Serial.feed_receiving (List.cons_ne_nil _ _) (by simpa using hn) hd

/-- Settles O3: each code announces as many items as the command is encoded with, and a 16-bit item is put together again from its two bytes. -/
theorem commandRoundTrip : Obligations.CommandRoundTrip := by
  unfold Obligations.CommandRoundTrip
  intro i hi hsync
  have hword (c : Word16 → Instr) (w : Word16) : some (c (hiByte w ++ loByte w)) = some (c w) := congrArg (some ∘ c) (hiByte_append_loByte w)
  cases i with
  | bdcReset | background | readStatus | readBkpt | go | trace1 | readA | readCcrPc | readSpc => exact Serial.feed_command rfl rfl
  | writeControl | writeA => exact Serial.feed_command rfl rfl
  | readByte w => exact Serial.feed_command rfl (hword .readByte w)
  | readByteWs w => exact Serial.feed_command rfl (hword .readByteWs w)
  | readBlock w => exact Serial.feed_command rfl (hword .readBlock w)
  | writeBkpt w => exact Serial.feed_command rfl (hword .writeBkpt w)
  | writeCcrPc w => exact Serial.feed_command rfl (hword .writeCcrPc w)
  | writeSpc w => exact Serial.feed_command rfl (hword .writeSpc w)
  | writeByte w v => exact Serial.feed_command rfl (hword (.writeByte · v) w)
  | writeByteWs w v => exact Serial.feed_command rfl (hword (.writeByteWs · v) w)
  | writeBlock w v => exact Serial.feed_command rfl (hword (.writeBlock · v) w)
  | sync => exact absurd rfl hsync
  | _ => cases hi

end Sys2Proof.Machine
end

section
/-! PROOFS. The commands that need active background mode, in it and outside it, BACKGROUND, BDC_RESET and SYNC: O44, O49, O43 and O50. -/

namespace Sys2Proof.Machine

/-! ## Commands that need active background mode (47_bdc_commands R281) -/

theorem inBackground_active {s : State} (h : s.bdcscr.bdmact = true) (n : Nat) (f : State → State) : inBackground n f s = .next (f s) := if_pos h

theorem inBackground_refused {s : State} (h : s.bdcscr.bdmact = false) (f : State → State) : inBackground 0 f s = .next s := by
  simp [inBackground, h]

/-- A refused command that owes a reply gives free bytes (decision D17; log 21). -/
theorem inBackground_refused_reply {s : State} (h : s.bdcscr.bdmact = false) {n : Nat} (hn : n ≠ 0) (f : State → State) :
    ∃ bytes : List Byte, bytes.length = n ∧ inBackground n f s = .next { s with reply := bytes, freeCount := s.freeCount + n } := by
  refine ⟨(List.range n).map fun k => Config.freeByte (s.freeCount + k), by simp, ?_⟩
  simp [inBackground, h, hn, State.answerFree]

theorem exec_go (s : State) : exec .go s = inBackground 0 State.leaveBackground s := rfl
theorem exec_trace1 (s : State) : exec .trace1 s = inBackground 0 (fun t => { t.leaveBackground with trace := true }) s := rfl
theorem exec_readA (s : State) : exec .readA s = inBackground 1 (fun t => t.answer [t.a]) s := rfl
theorem exec_writeA (v : Byte) (s : State) : exec (.writeA v) s = inBackground 0 (fun t => { t with a := v }) s := rfl
theorem exec_readCcrPc (s : State) : exec .readCcrPc s = inBackground 2 (fun t => t.answer [hiByte t.ccrPc, loByte t.ccrPc]) s := rfl
theorem exec_writeCcrPc (w : Word16) (s : State) :
    exec (.writeCcrPc w) s = inBackground 0 (fun t => { t with z := w.getLsbD 15, c := w.getLsbD 14, pc := w.setWidth 14 }) s := rfl
theorem exec_readSpc (s : State) : exec .readSpc s = inBackground 2 (fun t => t.answer [hiByte (t.spc.setWidth 16), loByte (t.spc.setWidth 16)]) s := rfl
theorem exec_writeSpc (w : Word16) (s : State) : exec (.writeSpc w) s = inBackground 0 (fun t => { t with spc := w.setWidth 14 }) s := rfl

theorem exec_readBlock_refused {s : State} (h : s.bdcscr.bdmact = false) (w : Word16) :
    exec (.readBlock w) s = .next { s with reply := [Config.freeByte s.freeCount], freeCount := s.freeCount + 1, serial := .readBlockRefused } :=
  if_neg (Bool.eq_false_iff.mp h)

theorem exec_writeBlock_refused {s : State} (h : s.bdcscr.bdmact = false) (w : Word16) (v : Byte) :
    exec (.writeBlock w v) s = .next { s with serial := .writeBlockRefused } := if_neg (Bool.eq_false_iff.mp h)

/-- A byte time while a refused WRITE_BLOCK lasts. -/
theorem hostByte_writeBlockRefused {s : State} (hreply : s.reply = []) (hserial : s.serial = .writeBlockRefused) (b : Byte) (tm : Timing) :
    hostByte b tm s = .next s := by
  simp [hostByte, hreply, hserial]

/-- A byte time while a refused READ_BLOCK lasts. -/
theorem hostByte_readBlockRefused {s : State} (hreply : s.reply = []) (hserial : s.serial = .readBlockRefused) (b : Byte) (tm : Timing) :
    hostByte b tm s = .next { s with sent := s.sent ++ [Config.freeByte s.freeCount], freeCount := s.freeCount + 1 } := by
  simp [hostByte, hreply, hserial, State.answerFree, State.delivered]

/-- The 512-cycle timeout reaches a debug controller that has a clock (47_bdc_commands R276). -/
theorem event_softReset (s : State) : event .softReset s = .next (if s.listening then { s with serial := .idle, reply := [] } else s) := rfl

/-- Settles O44: outside active background mode `inBackground` and the block commands leave a reply at most, and a refused block lasts to the soft-reset. -/
theorem backgroundCommandsOutsideBackground : Obligations.BackgroundCommandsOutsideBackground := by
  unfold Obligations.BackgroundCommandsOutsideBackground
  intro s v b w tm
  refine ⟨fun hb => ⟨?silent, exec_writeBlock_refused hb w v, ?replies, _, exec_readBlock_refused hb w⟩,
    fun hreply hserial => hostByte_writeBlockRefused hreply hserial b tm, fun hreply hserial => ⟨_, hostByte_readBlockRefused hreply hserial b tm⟩,
    fun hlistening _ => by rw [event_softReset, if_pos hlistening]⟩
  case silent =>
    simp only [List.forall_mem_cons]
    rw [exec_go, exec_trace1, exec_writeA, exec_writeCcrPc, exec_writeSpc]
    exact ⟨inBackground_refused hb _, inBackground_refused hb _, inBackground_refused hb _, inBackground_refused hb _, inBackground_refused hb _, nofun⟩
  case replies =>
    simp only [List.forall_mem_cons, exec_readA, exec_readCcrPc, exec_readSpc]
    exact ⟨inBackground_refused_reply hb one_ne_zero _, inBackground_refused_reply hb two_ne_zero _, inBackground_refused_reply hb two_ne_zero _, nofun⟩

/-! ## BACKGROUND (47_bdc_commands R293) -/

theorem State.requestBackground_ignored {s : State} (h : s.bdcscr.enbdm = false ∨ s.bdcscr.bdmact = true) : s.requestBackground = s :=
  if_pos (by simpa using h)

theorem State.requestBackground_asleep {s : State} (he : s.bdcscr.enbdm = true) (hb : s.bdcscr.bdmact = false) (ha : s.asleep = true) :
    s.requestBackground = s.enterBackground := by
  simp [State.requestBackground, he, hb, ha]

theorem State.requestBackground_awake {s : State} (he : s.bdcscr.enbdm = true) (hb : s.bdcscr.bdmact = false) (ha : s.asleep = false) :
    s.requestBackground = { s with backgroundRequest := true } := by
  simp [State.requestBackground, he, hb, ha]

/-- A request that finds ENBDM 1 at the boundary, with nothing before it (60_exceptions R350). -/
theorem State.settle_requested {s : State} (hm : s.mode = .run) (ht : s.tag = false) (hf : s.forcedRequest = false) (hr : s.trace = false)
    (hb : s.backgroundRequest = true) (he : s.bdcscr.enbdm = true) : s.settle = s.enterBackground := by
  rw [State.settle_moving (.inl hm) hr, State.debugStop_background ht hf, hb, he]
  rfl

/-- Settles O49: the three outcomes of `State.requestBackground`, and the boundary that finds the request. -/
theorem backgroundCommand : Obligations.BackgroundCommand := by
  unfold Obligations.BackgroundCommand
  intro s
  have hexec : exec .background s = .next s.requestBackground := rfl
  rw [hexec]
  refine ⟨rfl, fun h => by rw [State.requestBackground_ignored h], fun he hb ha => ?asleep, fun he hb ha => by rw [State.requestBackground_awake he hb ha],
    fun hm ht hf hr he => ?enters, fun hm ht hf hr he => ?dropped⟩
  case asleep =>
    rw [State.requestBackground_asleep he hb ha]
    rfl
  case enters =>
    refine (State.settle_requested (s := { s with backgroundRequest := true }) hm ht hf hr rfl he).trans ?_
    simp [State.enterBackground, ht, hf, hr]
  case dropped => exact State.settle_dropped hm ht hf he hr

/-! ## Registers of the CPU (47_bdc_commands R312–R317) -/

/-- Z and C stand above PC in Z : C : PC (47_bdc_commands R314). -/
theorem State.ccrPc_fields (s : State) : s.ccrPc.getLsbD 15 = s.z ∧ s.ccrPc.getLsbD 14 = s.c ∧ s.ccrPc.extractLsb' 0 14 = s.pc := by
  unfold State.ccrPc
  refine ⟨?_, ?_, BitVec.extractLsb'_append_eq_right⟩
  · rw [BitVec.getLsbD_append, BitVec.getLsbD_append]
    simp
  · rw [BitVec.getLsbD_append, BitVec.getLsbD_append]
    simp

theorem getLsbD_hiByte (w : Word16) {k : Nat} (hk : k < 8) : (hiByte w).getLsbD k = w.getLsbD (8 + k) := by
  simp [hiByte, hk]

/-- Settles O43: each command is one update of the state, and a 16-bit item is the two bytes of the reply. -/
theorem cpuRegisterCommands : Obligations.CpuRegisterCommands := by
  unfold Obligations.CpuRegisterCommands
  intro s v w hb
  obtain ⟨hz, hc, hpc⟩ := s.ccrPc_fields
  have hlow : w.setWidth 14 = w.extractLsb' 0 14 := bdcAddress_eq_extractLsb' w
  rw [← hlow]
  refine ⟨⟨rfl, (exec_readA s).trans (inBackground_active hb _ _)⟩, ⟨rfl, (exec_writeA v s).trans (inBackground_active hb _ _)⟩,
    ⟨hiByte s.ccrPc, loByte s.ccrPc, ⟨rfl, (exec_readCcrPc s).trans (inBackground_active hb _ _)⟩, ?z, ?c, ?pc⟩,
    ⟨rfl, (exec_writeCcrPc w s).trans (inBackground_active hb _ _)⟩,
    ⟨hiByte (s.spc.setWidth 16), loByte (s.spc.setWidth 16), ⟨rfl, (exec_readSpc s).trans (inBackground_active hb _ _)⟩, ?spc⟩,
    ⟨rfl, (exec_writeSpc w s).trans (inBackground_active hb _ _)⟩⟩
  case z => rw [getLsbD_hiByte _ (by decide), hz]
  case c => rw [getLsbD_hiByte _ (by decide), hc]
  case pc => rw [hiByte_append_loByte, hpc]
  case spc => rw [hiByte_append_loByte, BitVec.toNat_setWidth_of_le (by decide)]

/-! ## BDC_RESET and SYNC (47_bdc_commands R283, R284) -/

theorem exec_bdcReset (s : State) : exec .bdcReset s = .next (takeReset .bdcReset s) := rfl
theorem exec_sync (s : State) : exec .sync s = .next { s with serial := .idle, reply := [] } := rfl

/-- Settles O50: neither command looks at the mode. -/
theorem resetCommandAndSync : Obligations.ResetCommandAndSync := by
  unfold Obligations.ResetCommandAndSync
  exact fun s => ⟨⟨rfl, exec_bdcReset s⟩, ⟨rfl, exec_sync s⟩⟩

end Sys2Proof.Machine
end

section
/-! PROOFS. The debug commands that read and write memory, one byte at a time and in blocks: O46, O47 and O48. -/

namespace Sys2Proof.Machine

/-! ## Where an access fails (47_bdc_commands R294; decision D22) -/

/-- Neither after a WAIT or STOP nor before one: the byte at PC is known, and is neither opcode. -/
theorem State.besideSleep_eq_false {s : State} (ha : s.afterSleep = false) (hs : s.stores = []) (hu : s.unstated s.pc = false)
    (hstop : s.byteAt s.pc ≠ 0xAF#8) (hwait : s.byteAt s.pc ≠ 0xAE#8) : s.besideSleep = false := by
  simp [State.besideSleep, State.sleepsNext, State.stale_of_no_stores hs, ha, hu, hstop, hwait]

/-- Outside wait and stop an access completes where no collision is declared, or none is possible. -/
theorem State.bdcAccessFails_eq_false {s : State} (ha : s.asleep = false)
    (h : s.collision = false ∨ s.mode ≠ .run ∨
      s.afterSleep = false ∧ s.stores = [] ∧ s.unstated s.pc = false ∧ s.byteAt s.pc ≠ 0xAF#8 ∧ s.byteAt s.pc ≠ 0xAE#8) : s.bdcAccessFails = false := by
  unfold State.bdcAccessFails
  rcases h with hcollision | hmode | ⟨hafter, hstores, hunstated, hstop, hwait⟩
  · simp [ha, hcollision]
  · simp [ha, State.besideSleep, hmode]
  · simp [ha, State.besideSleep_eq_false hafter hstores hunstated hstop hwait]

/-- In wait and stop, and where a declared collision meets a WAIT or STOP, it fails. -/
theorem State.bdcAccessFails_eq_true {s : State}
    (h : s.asleep = true ∨ s.collision = true ∧ s.mode = .run ∧ (s.afterSleep = true ∨ s.byteAt s.pc = 0xAF#8 ∨ s.byteAt s.pc = 0xAE#8)) :
    s.bdcAccessFails = true := by
  unfold State.bdcAccessFails
  rcases h with ha | ⟨hcollision, hmode, hbeside⟩
  · simp [ha]
  · have hsleep : s.besideSleep = true := by
      rcases hbeside with h | h | h <;> simp [State.besideSleep, State.sleepsNext, hmode, h]
    simp [hcollision, hsleep]

theorem bdcRead_failed {p : Addr} {s : State} (h : s.bdcAccessFails = true) :
    bdcRead p s = .ok (Config.freeByte s.freeCount) ({ s with freeCount := s.freeCount + 1 }.accessFailed true) := if_pos h

theorem bdcWrite_failed {p : Addr} {v : Byte} {s : State} (h : s.bdcAccessFails = true) : bdcWrite p v s = .ok () (s.accessFailed true) := if_pos h

theorem bdcRead_illegal {p : Addr} {s : State} (hf : s.bdcAccessFails = false) (hp : s.dev.kindAt p = .illegal) :
    bdcRead p s = .abort .illegalAddress s := by
  simp [bdcRead, hf, bdcPhysRead_illegal hp]

theorem bdcWrite_illegal {p : Addr} {v : Byte} {s : State} (hf : s.bdcAccessFails = false) (hp : s.dev.kindAt p = .illegal) :
    bdcWrite p v s = .abort .illegalAddress s := by
  simp [bdcWrite, hf, bdcPhysWrite_illegal hp]

/-! ## READ_BYTE and READ_BYTE_WS (47_bdc_commands R287, R288) -/

/-- The status byte of a WS form, with WSF as the access has left it. -/
def State.statusAfter (s : State) (failed ws : Bool) : List Byte := if ws then [({ s.bdcscr with wsf := failed } : Bdcscr).toByte] else []

theorem bdcReadByte_legal {p : Addr} {s : State} (hf : s.bdcAccessFails = false) (hp : s.dev.kindAt p ≠ .illegal) (ws : Bool) :
    bdcReadByte p ws s = .ok () { s with bdcscr := { s.bdcscr with wsf := false }, freeCount := s.freeCount + s.draws p,
                                         reply := s.statusAfter false ws ++ [s.peek p] } := by
  rw [bdcReadByte, bdcRead_legal hf hp]
  cases ws <;> rfl

theorem bdcReadByte_failed {s : State} (hf : s.bdcAccessFails = true) (p : Addr) (ws : Bool) :
    bdcReadByte p ws s = .ok () { s with bdcscr := { s.bdcscr with wsf := true }, freeCount := s.freeCount + 1,
                                         reply := s.statusAfter true ws ++ [Config.freeByte s.freeCount] } := by
  rw [bdcReadByte, bdcRead_failed hf]
  cases ws <;> rfl

theorem bdcReadByte_illegal {p : Addr} {s : State} (hf : s.bdcAccessFails = false) (hp : s.dev.kindAt p = .illegal) (ws : Bool) :
    bdcReadByte p ws s = .abort .illegalAddress s := by
  rw [bdcReadByte, bdcRead_illegal hf hp]
  rfl

/-- Settles O46: both forms are the one access at the address of their field, which completes, resets or fails. -/
theorem memoryReadCommands : Obligations.MemoryReadCommands := by
  unfold Obligations.MemoryReadCommands
  intro s aaaa i hi
  have hread : encode i.1 = [i.2.1, aaaa.extractLsb' 8 8, aaaa.extractLsb' 0 8] ∧ exec i.1 s = (bdcReadByte (bdcAddress aaaa) i.2.2 s).finish := by
    revert i
    simp only [List.forall_mem_cons]
    exact ⟨⟨rfl, rfl⟩, ⟨rfl, rfl⟩, nofun⟩
  obtain ⟨hencode, hexec⟩ := hread
  rw [hexec, bdcAddress_eq_extractLsb']
  refine ⟨hencode, fun ha hclear hp => ?legal, fun ha hclear hp => ?illegal, fun hfails => ⟨Config.freeByte s.freeCount, ?failed⟩⟩
  case legal => rw [bdcReadByte_legal (State.bdcAccessFails_eq_false ha hclear) hp]; rfl
  case illegal => rw [bdcReadByte_illegal (State.bdcAccessFails_eq_false ha hclear) hp]; rfl
  case failed => rw [bdcReadByte_failed (State.bdcAccessFails_eq_true hfails)]; rfl

/-! ## One byte stored, and fields beside the bytes (20_memory R64) -/

/-- An update of other fields keeps what is said of one stored byte. -/
theorem ByteStored.update {s base t : State} {p : Addr} {v : Byte} (h : ByteStored s base t p v) (g : State → State)
    (hg : ∀ (u : State) x pagesel mem, g { u with x := x, pagesel := pagesel, mem := mem } = { g u with x := x, pagesel := pagesel, mem := mem }) :
    ByteStored s (g base) (g t) p v := by
  have hupdate : g t = { g base with x := t.x, pagesel := t.pagesel, mem := t.mem } := (congrArg g h.fields).trans (hg base t.x t.pagesel t.mem)
  have hbyte (q : Addr) : (g t).byteAt q = t.byteAt q := by rw [hupdate]; rfl
  exact ⟨by rw [hupdate], (hbyte p).trans h.byte, fun q hq => (hbyte q).trans (h.others q hq)⟩

/-! ## WRITE_BYTE and WRITE_BYTE_WS (47_bdc_commands R289, R290) -/

/-- WSF and the reply after a write of the host. -/
def State.afterWrite (failed ws : Bool) (s : State) : State :=
  { s with bdcscr := { s.bdcscr with wsf := failed }, reply := if ws then [({ s.bdcscr with wsf := failed } : Bdcscr).toByte] else s.reply }

theorem bdcWriteByte_legal {p : Addr} {s : State} (hf : s.bdcAccessFails = false) (hp : s.dev.kindAt p ≠ .illegal) (v : Byte) (ws : Bool) :
    bdcWriteByte p v ws s = .ok () ((s.store p v).afterWrite false ws) := by
  rw [bdcWriteByte, bdcWrite_legal hf hp]
  cases ws <;> rfl

theorem bdcWriteByte_failed {s : State} (hf : s.bdcAccessFails = true) (p : Addr) (v : Byte) (ws : Bool) :
    bdcWriteByte p v ws s = .ok () (s.afterWrite true ws) := by
  rw [bdcWriteByte, bdcWrite_failed hf]
  cases ws <;> rfl

theorem bdcWriteByte_illegal {p : Addr} {s : State} (hf : s.bdcAccessFails = false) (hp : s.dev.kindAt p = .illegal) (v : Byte) (ws : Bool) :
    bdcWriteByte p v ws s = .abort .illegalAddress s := by
  rw [bdcWriteByte, bdcWrite_illegal hf hp]
  rfl

/-- Settles O47: both forms are the one write at the address of their field; where it completes it is the one store, and WSF and the reply beside it. -/
theorem memoryWriteCommands : Obligations.MemoryWriteCommands := by
  unfold Obligations.MemoryWriteCommands
  intro s aaaa v hm i hi
  have hwrite : encode i.1 = [i.2.1, aaaa.extractLsb' 8 8, aaaa.extractLsb' 0 8, v] ∧ exec i.1 s = (bdcWriteByte (bdcAddress aaaa) v i.2.2 s).finish := by
    revert i
    simp only [List.forall_mem_cons]
    exact ⟨⟨rfl, rfl⟩, ⟨rfl, rfl⟩, nofun⟩
  obtain ⟨hencode, hexec⟩ := hwrite
  rw [hexec, bdcAddress_eq_extractLsb']
  refine ⟨hencode, fun ha hclear hp => ⟨_, congrArg Access.finish (bdcWriteByte_legal (State.bdcAccessFails_eq_false ha hclear) hp v _), ?stored⟩,
    fun ha hclear hp => ?illegal, fun hfails => ?failed⟩
  case stored => exact (State.byteStored_store hm _ v).update (State.afterWrite false i.2.2) fun _ _ _ _ => rfl
  case illegal => rw [bdcWriteByte_illegal (State.bdcAccessFails_eq_false ha hclear) hp]; rfl
  case failed => rw [bdcWriteByte_failed (State.bdcAccessFails_eq_true hfails)]; rfl

/-! ## Blocks (47_bdc_commands R310, R311) -/

theorem blockRead_legal {p : Addr} {s : State} (hp : s.dev.kindAt p ≠ .illegal) :
    blockRead p s = .ok () { s with reply := [s.peek p], serial := .readBlock (p + 1), bdcscr := { s.bdcscr with wsf := false },
                                    freeCount := s.freeCount + s.draws p } := by
  rw [blockRead, bdcPhysRead_legal hp]
  rfl

theorem blockRead_illegal {p : Addr} {s : State} (hp : s.dev.kindAt p = .illegal) : blockRead p s = .abort .illegalAddress s := by
  rw [blockRead, bdcPhysRead_illegal hp]
  rfl

/-- What a WRITE_BLOCK leaves beside the byte stored: it is open at `next`, and WSF is 0. -/
def State.blockOpen (next : Addr) (s : State) : State := { s with serial := .writeBlock next, bdcscr := { s.bdcscr with wsf := false } }

theorem blockWrite_legal {p : Addr} {s : State} (hp : s.dev.kindAt p ≠ .illegal) (v : Byte) :
    blockWrite p v s = .ok () ((s.store p v).blockOpen (p + 1)) := by
  rw [blockWrite, bdcPhysWrite_legal hp]
  rfl

theorem blockWrite_illegal {p : Addr} {s : State} (hp : s.dev.kindAt p = .illegal) (v : Byte) : blockWrite p v s = .abort .illegalAddress s := by
  rw [blockWrite, bdcPhysWrite_illegal hp]
  rfl

theorem byteStored_blockOpen {s : State} (hm : s.mem.wf = true) (p : Addr) (v : Byte) :
    ByteStored s { s with serial := .writeBlock (p + 1), bdcscr := { s.bdcscr with wsf := false }, stores := s.storesAfter p s.pc }
      ((s.store p v).blockOpen (p + 1)) p v :=
  (State.byteStored_store hm p v).update (State.blockOpen (p + 1)) fun _ _ _ _ => rfl

theorem exec_readBlock_active {s : State} (hb : s.bdcscr.bdmact = true) (aaaa : Word16) :
    exec (.readBlock aaaa) s = (blockRead (bdcAddress aaaa) s).finish := if_pos hb

theorem exec_writeBlock_active {s : State} (hb : s.bdcscr.bdmact = true) (aaaa : Word16) (v : Byte) :
    exec (.writeBlock aaaa v) s = (blockWrite (bdcAddress aaaa) v s).finish := if_pos hb

/-- A byte time while a READ_BLOCK is open. -/
theorem hostByte_readBlock {s : State} {p : Addr} (hreply : s.reply = []) (hserial : s.serial = .readBlock p) (b : Byte) (tm : Timing) :
    hostByte b tm s = ((blockRead p s).bind fun _ t => .ok () t.delivered).finish := by
  simp only [hostByte, hreply, hserial]

/-- A byte time while a WRITE_BLOCK is open. -/
theorem hostByte_writeBlock {s : State} {p : Addr} (hreply : s.reply = []) (hserial : s.serial = .writeBlock p) (b : Byte) (tm : Timing) :
    hostByte b tm s = (blockWrite p b s).finish := by
  simp only [hostByte, hreply, hserial]

/-- Settles O48: the first item and every later one are the same access, which completes and moves the address on, or resets. -/
theorem blockCommands : Obligations.BlockCommands := by
  unfold Obligations.BlockCommands
  intro s aaaa p b tm hm
  rw [← bdcAddress_eq_extractLsb']
  refine ⟨fun hb hp => ⟨⟨rfl, ?firstRead⟩, rfl, _, ?firstWrite, byteStored_blockOpen hm _ b⟩, fun hreply hserial hp => ?read,
    fun hreply hserial hp => ⟨_, ?write, byteStored_blockOpen hm p b⟩, fun hb hp => ⟨?firstReadIllegal, ?firstWriteIllegal⟩,
    fun hreply hserial hp => ?illegal, event_softReset s⟩
  case firstRead => rw [exec_readBlock_active hb, blockRead_legal hp]; rfl
  case firstWrite => rw [exec_writeBlock_active hb, blockWrite_legal hp]; rfl
  case read =>
    rw [hostByte_readBlock hreply hserial, blockRead_legal hp]
    simp [State.delivered, hreply]
  case write => rw [hostByte_writeBlock hreply hserial, blockWrite_legal hp]; rfl
  case firstReadIllegal => rw [exec_readBlock_active hb, blockRead_illegal hp]; rfl
  case firstWriteIllegal => rw [exec_writeBlock_active hb, blockWrite_illegal hp]; rfl
  case illegal =>
    rcases hserial with hserial | hserial
    · rw [hostByte_readBlock hreply hserial, blockRead_illegal hp]; rfl
    · rw [hostByte_writeBlock hreply hserial, blockWrite_illegal hp]; rfl

end Sys2Proof.Machine
end

section
/-! PROOFS. How the bytes of the host run its commands, at each timing, and the traced instruction: O51 and O45. -/

namespace Sys2Proof.Machine

/-! ## A command other than TRACE1 restarts no instruction (47_bdc_commands R309) -/

theorem Access.finish_trace {x : Access Unit} {t : State} (hx : x.state.trace = false) (h : x.finish = .next t) : t.trace = false := by
  cases x with
  | ok v u => cases h; exact hx
  | abort cause u => cases h; simp [takeReset]

theorem inBackground_trace {n : Nat} {f : State → State} {s t : State} (hs : s.trace = false) (hf : (f s).trace = false) (h : inBackground n f s = .next t) :
    t.trace = false := by
  unfold inBackground at h
  split at h
  · cases h; exact hf
  · split at h <;> cases h <;> exact hs

theorem State.requestBackground_trace {s : State} (hs : s.trace = false) : s.requestBackground.trace = false := by
  unfold State.requestBackground
  split
  · exact hs
  · split
    · rfl
    · exact hs

theorem bdcReadByte_trace (p : Addr) (ws : Bool) (s : State) : (bdcReadByte p ws s).state.trace = s.trace := by
  refine Access.bind_state (P := fun u => u.trace = s.trace) ?_ fun _ _ hu => hu
  rcases bdcRead_cases p s with ⟨-, e⟩ | ⟨-, -, e⟩ | ⟨-, -, e⟩ <;> rw [e] <;> rfl

theorem bdcWriteByte_trace (p : Addr) (v : Byte) (ws : Bool) (s : State) : (bdcWriteByte p v ws s).state.trace = s.trace := by
  refine Access.bind_state (P := fun u => u.trace = s.trace) ?_ fun _ _ hu => by cases ws <;> exact hu
  rcases bdcWrite_cases p v s with ⟨-, e⟩ | ⟨-, -, e⟩ | ⟨-, -, e⟩ <;> rw [e] <;> simp

theorem blockRead_trace (p : Addr) (s : State) : (blockRead p s).state.trace = s.trace := by
  by_cases hp : s.dev.kindAt p = .illegal
  · rw [blockRead_illegal hp]; rfl
  · rw [blockRead_legal hp]; rfl

theorem blockWrite_trace (p : Addr) (v : Byte) (s : State) : (blockWrite p v s).state.trace = s.trace := by
  by_cases hp : s.dev.kindAt p = .illegal
  · rw [blockWrite_illegal hp]; rfl
  · rw [blockWrite_legal hp]; exact s.store_trace p v

theorem exec_command_trace {i : Instr} (hc : isCommand i = true) (hi : i ≠ .trace1) {s t : State} (hs : s.trace = false) (h : exec i s = .next t) :
    t.trace = false := by
  unfold exec at h
  cases i with
  | bdcReset => cases h; simp [takeReset]
  | background => cases h; exact State.requestBackground_trace hs
  | writeControl | readStatus | readBkpt | writeBkpt | sync => cases h; exact hs
  | readByte | readByteWs => exact Access.finish_trace ((bdcReadByte_trace _ _ s).trans hs) h
  | writeByte | writeByteWs => exact Access.finish_trace ((bdcWriteByte_trace _ _ _ s).trans hs) h
  | go | readA | writeA | readCcrPc | writeCcrPc | readSpc | writeSpc => exact inBackground_trace hs (by exact hs) h
  | trace1 => exact absurd rfl hi
  | readBlock =>
    replace h : execReadBlock _ s = .next t := h
    unfold execReadBlock at h
    split at h
    · exact Access.finish_trace ((blockRead_trace _ s).trans hs) h
    · cases h; exact hs
  | writeBlock =>
    replace h : execWriteBlock _ _ s = .next t := h
    unfold execWriteBlock at h
    split at h
    · exact Access.finish_trace ((blockWrite_trace _ _ s).trans hs) h
    · cases h; exact hs
  | _ => cases hc

/-! ## Commands at a boundary (47_bdc_commands R279, R294) -/

/-- After a command other than TRACE1 comes the boundary. -/
theorem runCommand_eq {i : Instr} (hc : isCommand i = true) (hi : i ≠ .trace1) {s : State} (hs : s.trace = false) :
    runCommand i s = onNext (exec i s) fun t => .next { t with collision := false }.settle := by
  unfold runCommand
  cases h : exec i s with
  | next t => exact if_neg (by simp [exec_command_trace hc hi hs h])
  | fault r => rfl
  | refused r => rfl

/-- The timing of the last byte matters to a command other than TRACE1 by a declared collision alone (decision D22; log 26). -/
theorem completeCommand_eq {i : Instr} (hi : i ≠ .trace1) (tm : Timing) {s : State} (hs : s.collision = false) :
    completeCommand i tm s = runCommand i { s with collision := decide (tm = .collide) } := by
  have hsame : { s with collision := false } = s := by rw [← hs]
  cases tm with
  | boundary => exact congrArg (runCommand i) hsame.symm
  | collide => rfl
  | cut source stored => exact (if_neg fun h => hi h.1).trans (congrArg (runCommand i) hsame.symm)

/-! ## Bytes as inputs (47_bdc_commands R276, R280, R282) -/

/-- A byte of the host, where the debug controller has a clock. -/
theorem step_byte {s : State} {b : Byte} {tm : Timing} {rest : List Input} (henv : s.env = .byte b tm :: rest) (hl : s.listening = true) :
    step s = hostByte b tm { s with env := rest } := (step_input henv).trans (if_pos hl)

theorem step_byte_unheard {s : State} {b : Byte} {tm : Timing} {rest : List Input} (henv : s.env = .byte b tm :: rest) (hl : s.listening = false) :
    step s = .next { s with env := rest } := (step_input henv).trans (if_neg (show ¬ s.listening = true by simp [hl]))

theorem hostByte_reply {s : State} {r : Byte} {rs : List Byte} (h : s.reply = r :: rs) (b : Byte) (tm : Timing) :
    hostByte b tm s = .next { s with reply := rs, sent := s.sent ++ [r] } := by
  simp only [hostByte, h]

/-- A byte that completes no command changes the serial state alone. -/
theorem hostByte_incomplete {b : Byte} {tm : Timing} {s : State} (hreply : s.reply = []) (hr : s.serial.noBlock = true)
    (h : (s.serial.receive b).2 = none) : hostByte b tm s = .next { s with serial := (s.serial.receive b).1 } := by
  rw [hostByte_receive hreply hr]
  rcases Serial.receive_cases hr b with ⟨r, e, -⟩ | ⟨i, e, -⟩
  · rw [e]
  · rw [e] at h; cases h

/-- The last byte of a command leaves the serial state idle and runs it. -/
theorem hostByte_complete {b : Byte} {tm : Timing} {s : State} (hreply : s.reply = []) (hr : s.serial.noBlock = true) {i : Instr}
    (h : (s.serial.receive b).2 = some i) : isCommand i = true ∧ hostByte b tm s = completeCommand i tm { s with serial := .idle } := by
  rw [hostByte_receive hreply hr]
  rcases Serial.receive_cases hr b with ⟨r, e, -⟩ | ⟨j, e, hj⟩ <;> rw [e] at h ⊢ <;> cases h
  exact ⟨hj, rfl⟩

/-- A code outside Table 3-2 is ignored (decision D16; log 21). -/
theorem Serial.receive_unlisted {b : Byte} (h : commandItems b = none) : Serial.receive .idle b = (.idle, none) := by
  simp [Serial.receive, h]

/-- Outside reset the debug controller has a clock but, where the device says so, in wait and stop with ENBDM 0 (log 28). -/
theorem State.listening_of_enabled {s : State} (hm : s.mode ≠ .reset) (h : s.asleep = false ∨ s.bdcscr.enbdm = true) : s.listening = true := by
  unfold State.listening
  cases hmode : s.mode with
  | run | background => rfl
  | wait | stop =>
    have he : s.bdcscr.enbdm = true := h.resolve_left (by simp [State.asleep, hmode])
    simp [he]
  | reset => exact absurd hmode hm

/-- Settles O51: the byte goes to a waiting reply or to the serial state, which completes a command or does not. -/
theorem commandBytesReachExec : Obligations.CommandBytesReachExec := by
  unfold Obligations.CommandBytesReachExec
  intro s b tm rest
  refine ⟨State.listening_of_enabled, fun hm => by simp [State.listening, hm],
    fun he => ⟨fun hm => by simp [State.listening, hm, he], fun hm => by simp [State.listening, hm, he]⟩,
    fun henv => ⟨fun hl hreply hr => ⟨fun i hi hne htrace hcollision => ?completes, fun hi => ?incomplete, fun hserial hb => ?unlisted⟩,
      fun r rs hl hreply => ?reply, step_byte_unheard henv⟩⟩
  case completes =>
    obtain ⟨hc, hbyte⟩ := hostByte_complete (tm := tm) (s := { s with env := rest }) hreply hr hi
    rw [step_byte henv hl, hbyte, completeCommand_eq hne tm (by exact hcollision), runCommand_eq hc hne (by exact htrace)]
  case incomplete => rw [step_byte henv hl, hostByte_incomplete (by exact hreply) (by exact hr) (by exact hi)]
  case unlisted =>
    have hnone : (s.serial.receive b).2 = none := by rw [hserial, Serial.receive_unlisted hb]
    rw [step_byte henv hl, hostByte_incomplete (by exact hreply) (by exact hr) (by exact hnone)]
    simp [hserial, Serial.receive_unlisted hb]
  case reply => rw [step_byte henv hl, hostByte_reply (by exact hreply)]

/-! ## GO and TRACE1 (47_bdc_commands R308, R309) -/

/-- With no request pending, the end of a traced instruction is the entry to active background mode, with WS 0. -/
theorem State.settle_traced_quiet {s : State} (h : s.asleep = true ∨ s.mode = .run) (ht : s.trace = true) (htag : s.tag = false)
    (hf : s.forcedRequest = false) (hb : s.backgroundRequest = false) :
    s.settle = { s with mode := .background, bdcscr := { s.bdcscr with bdmact := true, ws := false }, trace := false } := by
  have hnone : s.clearWs.debugStop = none := State.debugStop_none htag hf hb
  rw [State.settle_traced h.symm ht, hnone]
  simp [State.clearWs, State.enterBackground, htag, hf, hb]

/-- TRACE1 gives the CPU its turn at once. -/
theorem runCommand_trace1 {s : State} (hb : s.bdcscr.bdmact = true) :
    runCommand .trace1 s = cpuStep { s.leaveBackground with trace := true, collision := false } := by
  rw [runCommand, exec_trace1, inBackground_active hb]
  rfl

/-- In active background mode with BKGD idle the TRACE1 code is a whole command. -/
theorem step_trace1_code {s : State} (hm : s.mode = .background) (hserial : s.serial = .idle) (hreply : s.reply = [])
    {rest : List Input} {tm : Timing} (henv : s.env = .byte 0x10#8 tm :: rest) : step s = completeCommand .trace1 tm { s with env := rest } := by
  have hl : s.listening = true := by simp [State.listening, hm]
  have hreceive : (s.serial.receive 0x10#8).2 = some .trace1 := by rw [hserial]; rfl
  obtain ⟨-, hbyte⟩ := hostByte_complete (tm := tm) (s := { s with env := rest }) hreply (by simp [hserial, Serial.noBlock]) hreceive
  have hsame : { s with env := rest, serial := .idle } = { s with env := rest } := by rw [← hserial]
  rw [step_byte henv hl, hbyte, hsame]

/-- It runs one turn of the CPU, at every timing that declares no reset (log 29). -/
theorem step_trace1 {s : State} (hb : s.bdcscr.bdmact = true) (hm : s.mode = .background) (hserial : s.serial = .idle) (hreply : s.reply = [])
    {rest : List Input} {tm : Timing} (henv : s.env = .byte 0x10#8 tm :: rest) (htm : ∀ source stored, tm ≠ .cut source stored) :
    step s = cpuStep { s.leaveBackground with env := rest, trace := true, collision := false } := by
  rw [step_trace1_code hm hserial hreply henv]
  cases tm with
  | boundary => exact runCommand_trace1 (s := { s with env := rest }) hb
  | collide => exact runCommand_trace1 (s := { s with env := rest, collision := true }) hb
  | cut source stored => exact absurd rfl (htm source stored)

/-- Settles O45: both commands are `State.leaveBackground`; the turn that TRACE1 gives the CPU has nothing to stop it before its instruction, and ends in
active background mode. -/
theorem goAndTrace : Obligations.GoAndTrace := by
  unfold Obligations.GoAndTrace
  refine ⟨fun s hb => ⟨⟨rfl, (exec_go s).trans (inBackground_active hb _ _)⟩, ⟨rfl, (exec_trace1 s).trans (inBackground_active hb _ _)⟩⟩, ?_⟩
  intro s u i t rest tm hinv hm hserial hreply hbkpt henv htm hu hfetch hexec hmode htrace htag hforced hbackground
  have hb : s.bdcscr.bdmact = true := by simp [hinv.active, hm]
  have hstart : { s.leaveBackground with env := rest, trace := true, collision := false, tag := false } = u := by
    rw [hu, ← hinv.noCollision]
    rfl
  have hplain : cpuStep { s.leaveBackground with env := rest, trace := true, collision := false } = runInstr u := by
    rw [cpuStep_run_plain rfl (by exact hbkpt) (by exact hinv.noForced) (by exact hinv.noBackground), hstart]
  have hawake : { u with afterSleep := false } = u := by rw [hu]; rfl
  calc step s = runInstr u := (step_trace1 hb hm hserial hreply henv htm).trans hplain
    _ = onNext (exec i { u with afterSleep := false }) fun w => .next w.settle := runInstr_of_fetched hfetch
    _ = .next t.settle := by rw [hawake, hexec]; rfl
    _ = _ := congrArg Host.Outcome.next (State.settle_traced_quiet hmode htrace htag hforced hbackground)

end Sys2Proof.Machine
end

section
/-! PROOFS. Everything a boundary can do, what a reset keeps, and what an instruction makes of the mark of a run gone wrong. -/

namespace Sys2Proof.Machine

/-! ## What the debug logic and a boundary do (60_exceptions R335) -/

/-- Where the debug logic stops the CPU it enters active background mode, or resets for a breakpoint with ENBDM 0 (60_exceptions R356). -/
theorem State.debugStop_eq_some {s t : State} (h : s.debugStop = some t) :
    t = s.enterBackground ∨ (s.tag = true ∨ s.forcedRequest = true) ∧ t = takeReset .illegalOpcode s := by
  by_cases hbreak : s.tag = true ∨ s.forcedRequest = true
  · rw [State.debugStop_stops hbreak] at h
    cases h
    exact s.stopForDebug_cases.imp And.right fun h => ⟨hbreak, h.2⟩
  · simp only [not_or, Bool.not_eq_true] at hbreak
    rw [State.debugStop_background hbreak.1 hbreak.2] at h
    split at h <;> cases h
    exact .inl rfl

/-- Everything a boundary can do: drop a BACKGROUND request, enter active background mode, which a trace does with WS 0, or reset for a breakpoint. -/
theorem State.settle_cases (s : State) :
    (∃ request, s.settle = { s with backgroundRequest := request }) ∨
    (∃ ws, s.settle = State.enterBackground { s with bdcscr := { s.bdcscr with ws := ws } }) ∨
    ((s.tag = true ∨ s.forcedRequest = true) ∧ s.settle = takeReset .illegalOpcode s) := by
  rcases s.parked_or_moving with hparked | hmoving
  · exact .inl ⟨s.backgroundRequest, State.settle_parked hparked⟩
  by_cases ht : s.trace = true
  · rw [State.settle_traced hmoving ht]
    cases hd : s.clearWs.debugStop with
    | some t =>
      rcases State.debugStop_eq_some hd with rfl | ⟨hbreak, rfl⟩
      · exact .inr (.inl ⟨false, rfl⟩)
      · exact .inr (.inr ⟨hbreak, rfl⟩)
    | none => exact .inr (.inl ⟨false, rfl⟩)
  · rw [State.settle_moving hmoving (Bool.eq_false_iff.mpr ht)]
    cases hd : s.debugStop with
    | some t =>
      rcases State.debugStop_eq_some hd with rfl | ⟨hbreak, rfl⟩
      · exact .inr (.inl ⟨s.bdcscr.ws, rfl⟩)
      · exact .inr (.inr ⟨hbreak, rfl⟩)
    | none => exact .inl ⟨false, rfl⟩

/-! ## What a reset keeps (70_reset_and_hazards R370) -/

/-- `s` and `t` are the same to a reset, and a run gone wrong in `s` has gone wrong in `t`. -/
structure State.AlikeToReset (s t : State) : Prop where
  mem : t.mem = s.mem
  sent : t.sent = s.sent
  bkgdLowAtResetEnd : t.bkgdLowAtResetEnd = s.bkgdLowAtResetEnd
  freeCount : t.freeCount = s.freeCount
  dev : t.dev = s.dev
  env : t.env = s.env
  wrong : s.wentWrong = true → t.wentWrong = true

namespace State.AlikeToReset

theorem enterBackground (s : State) : s.AlikeToReset s.enterBackground := ⟨rfl, rfl, rfl, rfl, rfl, rfl, id⟩

theorem takeReset (cause : ResetCause) (s : State) : s.AlikeToReset (takeReset cause s) where
  mem := by simp [Machine.takeReset]
  sent := by simp [Machine.takeReset]
  bkgdLowAtResetEnd := by simp [Machine.takeReset]
  freeCount := by simp [Machine.takeReset]
  dev := by simp [Machine.takeReset]
  env := by simp [Machine.takeReset]
  wrong h := by simp [Machine.takeReset, h]

theorem debugStop {s t : State} (h : s.debugStop = some t) : s.AlikeToReset t := by
  rcases State.debugStop_eq_some h with rfl | ⟨-, rfl⟩
  · exact enterBackground s
  · exact takeReset _ s

theorem settle (s : State) : s.AlikeToReset s.settle := by
  rcases s.settle_cases with ⟨_, e⟩ | ⟨_, e⟩ | ⟨-, e⟩ <;> rw [e]
  · exact ⟨rfl, rfl, rfl, rfl, rfl, rfl, id⟩
  · exact ⟨rfl, rfl, rfl, rfl, rfl, rfl, id⟩
  · exact takeReset _ s

/-- A reset of a state that is the same to it gives the same state but for the mark of a run gone wrong. -/
theorem takeReset_eq {s t : State} (h : s.AlikeToReset t) {cause : ResetCause} {w : Bool} (hw : (Machine.takeReset cause s).wentWrong = w) :
    Machine.takeReset cause s = { Machine.takeReset cause t with wentWrong := w } := by
  subst hw
  obtain ⟨hmem, hsent, hlow, hfree, hdev, henv, -⟩ := h
  unfold Machine.takeReset State.leaveReset State.enterReset
  simp only [hmem, hsent, hlow, hfree, hdev, henv]
  split <;> rfl

end State.AlikeToReset

/-! ## What an instruction keeps of the run (60_exceptions R322) -/

/-- A property that the fetches keep. -/
theorem fetchInstr_keeps {P : State → Prop} (hP : ∀ {s : State} (p : Addr) (n : Nat), P s → P { s.touch p with freeCount := n }) {s : State} (hs : P s) :
    P (fetchInstr s).state := by
  have hfetch {u : State} (p : Addr) (hu : P u) : P (fetch p u).state := by
    rcases fetch_cases p u with ⟨-, e⟩ | ⟨-, v, n, e⟩ <;> rw [e]
    · exact hu
    · exact hP p _ hu
  unfold fetchInstr
  refine Access.bind_state (hfetch _ hs) fun op s1 h1 => ?_
  split
  · exact h1
  · refine Access.bind_state (hfetch _ h1) fun b1 s2 h2 => ?_
    split
    · exact h2
    · exact Access.bind_state (hfetch _ h2) fun _ _ h3 => h3

/-- Everything an instruction can end in, its fetches among it. -/
theorem instruction_completes {P : State → Prop} (hP : KeptByAccesses P) (hfetch : ∀ {s : State} (p : Addr) (n : Nat), P s → P { s.touch p with freeCount := n })
    (hsleep : ∀ {s : State}, P s → P { s with afterSleep := false }) {s t : State} (hs : P s) (h : instruction s = .next t) :
    ∃ j, Completes P (lastOperation j) t := by
  have hfetched := fetchInstr_keeps hfetch hs
  unfold instruction at h
  cases hi : fetchInstr s with
  | abort cause u =>
    rw [hi] at hfetched h
    cases h
    exact ⟨.nop, .inl ⟨cause, u, hfetched, rfl⟩⟩
  | ok i u =>
    obtain ⟨op, b1, b2, rfl⟩ := fetchInstr_decodes hi
    rw [hi] at hfetched h
    exact ⟨_, exec_completes hP (isCommand_decodeOp op b1 b2) (hsleep hfetched) h⟩

/-- The last operation of an instruction changes registers, the record of stores and, for WAIT and STOP, the mode and WS; BGND alone stops for the debug logic. -/
theorem lastOperation_cases (j : Instr) (v : Byte) (u : State) :
    (∃ a pc spc z c mode ws afterSleep stores, lastOperation j v u = { u with
      a := a, pc := pc, spc := spc, z := z, c := c, mode := mode, bdcscr := { u.bdcscr with ws := ws }, afterSleep := afterSleep, stores := stores }) ∨
    lastOperation j v u = u.stopForDebug := by
  have hbranch (w : State) (taken : Bool) (rr : Byte) : ∃ pc stores, w.branchIf taken rr = { w with pc := pc, stores := stores } := by
    unfold State.branchIf
    split <;> exact ⟨_, _, rfl⟩
  have hsleep (m : Mode) : ∃ mode ws, u.sleep m = { u with mode := mode, bdcscr := { u.bdcscr with ws := ws }, afterSleep := true } := by
    unfold State.sleep
    split <;> exact ⟨_, _, rfl⟩
  cases j with
  | bgnd => exact .inr rfl
  | wait | stop =>
    obtain ⟨mode, ws, e⟩ := hsleep _
    exact .inl ⟨_, _, _, _, _, _, _, _, _, e⟩
  | brset | brclr | bra | bcc | bcs | bne | beq | cbeqDir | cbeqa | dbnzDir | dbnza =>
    obtain ⟨pc, stores, e⟩ := hbranch _ _ _
    exact .inl ⟨_, _, _, _, _, _, _, _, _, e⟩
  | _ => exact .inl ⟨_, _, _, _, _, _, _, _, _, rfl⟩

theorem hostCommand_wentWrong (i : Instr) (s : State) : (hostCommand i s).state.wentWrong = s.wentWrong := by
  cases i with
  | background =>
    show s.requestBackground.wentWrong = _
    unfold State.requestBackground
    split
    · rfl
    · split <;> rfl
  | readByte | readByteWs =>
    refine Access.bind_state (P := fun u => u.wentWrong = s.wentWrong) ?_ fun _ _ hu => hu
    rcases bdcRead_cases _ s with ⟨-, e⟩ | ⟨-, -, e⟩ | ⟨-, -, e⟩ <;> rw [e] <;> rfl
  | writeByte | writeByteWs =>
    refine Access.bind_state (P := fun u => u.wentWrong = s.wentWrong) ?_ fun _ _ hu => hu
    rcases bdcWrite_cases _ _ s with ⟨-, e⟩ | ⟨-, -, e⟩ | ⟨-, -, e⟩ <;> rw [e] <;> simp
  | _ => rfl

theorem performAll_wentWrong (is : List Instr) (s : State) : (performAll is s).state.wentWrong = s.wentWrong := by
  induction is generalizing s with
  | nil => rfl
  | cons i is ih =>
    exact Access.bind_state (P := fun u => u.wentWrong = s.wentWrong) (hostCommand_wentWrong i s) fun _ u hu => (ih u.delivered).trans hu

/-- Up to its last operation, or a reset, an instruction leaves the mark of the run. -/
theorem wentWrong_keptByAccesses (w : Bool) : KeptByAccesses fun u => u.wentWrong = w where
  advance _ h := h
  read _ h := h
  write {s} p v h := ((s.touch p).store_wentWrong p v).trans h
  stolen {s} h := (performAll_wentWrong s.stolen { s with stolen := [] }).trans h

theorem takeReset_wentWrong (cause : ResetCause) (s : State) : (takeReset cause s).wentWrong = (s.wentWrong || cause.isWrong) := by
  simp [takeReset]

/-- An instruction does not take the mark of a run gone wrong back (60_exceptions R322). -/
theorem instruction_wrong {s t : State} (h : instruction s = .next t) (hs : s.wentWrong = true) : t.wentWrong = true := by
  obtain ⟨j, hj⟩ := instruction_completes (wentWrong_keptByAccesses true) (fun _ _ h => h) (fun h => h) hs h
  rcases hj with ⟨cause, u, hu, rfl⟩ | ⟨v, u, hu, rfl⟩
  · simp [takeReset_wentWrong, hu]
  · rcases lastOperation_cases j v u with ⟨_, _, _, _, _, _, _, _, _, e⟩ | e <;> rw [e]
    · exact hu
    · rcases u.stopForDebug_cases with ⟨-, e⟩ | ⟨-, e⟩ <;> rw [e]
      · exact hu
      · simp [takeReset_wentWrong, hu]

/-! ## With the breakpoint disabled (60_exceptions R354, R355) -/

/-- The breakpoint is disabled and has left no request, and no command of the host waits that could enable it. -/
structure State.Unwatched (s : State) : Prop where
  disabled : s.bdcscr.bkpten = false
  noTag : s.tag = false
  noForced : s.forcedRequest = false
  noStolen : s.stolen = []

theorem State.Unwatched.touch {s : State} (h : s.Unwatched) (p : Addr) : (s.touch p).Unwatched := by
  rw [State.touch_of_disabled h.disabled]
  exact h

theorem State.Unwatched.store {s : State} (h : s.Unwatched) (p : Addr) (v : Byte) : (s.store p v).Unwatched :=
  ⟨by simp [h.disabled], by simp [h.noTag], by simp [h.noForced], by simp [h.noStolen]⟩

theorem State.Unwatched.keptByAccesses : KeptByAccesses State.Unwatched where
  advance _ h := ⟨h.disabled, h.noTag, h.noForced, h.noStolen⟩
  read p h := by
    obtain ⟨hdisabled, htag, hforced, hstolen⟩ := h.touch p
    exact ⟨hdisabled, htag, hforced, hstolen⟩
  write p v h := (h.touch p).store p v
  stolen h := by rw [stolenCycle_none h.noStolen]; exact h

/-- With the breakpoint disabled no breakpoint is pending after an instruction. -/
theorem instruction_unwatched {s t : State} (h : instruction s = .next t) (hs : s.Unwatched) : t.tag = false ∧ t.forcedRequest = false := by
  have hfetch {u : State} (p : Addr) (n : Nat) (hu : u.Unwatched) : State.Unwatched { u.touch p with freeCount := n } := by
    obtain ⟨hdisabled, htag, hforced, hstolen⟩ := hu.touch p
    exact ⟨hdisabled, htag, hforced, hstolen⟩
  obtain ⟨j, hj⟩ := instruction_completes State.Unwatched.keptByAccesses hfetch (fun h => ⟨h.disabled, h.noTag, h.noForced, h.noStolen⟩) hs h
  rcases hj with ⟨cause, u, hu, rfl⟩ | ⟨v, u, hu, rfl⟩
  · simp [takeReset]
  · rcases lastOperation_cases j v u with ⟨_, _, _, _, _, _, _, _, _, e⟩ | e <;> rw [e]
    · exact ⟨hu.noTag, hu.noForced⟩
    · rcases u.stopForDebug_cases with ⟨-, e⟩ | ⟨-, e⟩ <;> rw [e]
      · exact ⟨rfl, rfl⟩
      · simp [takeReset]

/-- Then neither the debug logic nor the boundary makes the run go wrong. -/
theorem State.debugStop_wentWrong {s t : State} (h : s.debugStop = some t) (ht : s.tag = false) (hf : s.forcedRequest = false) : t.wentWrong = s.wentWrong := by
  rcases State.debugStop_eq_some h with rfl | ⟨hbreak, -⟩
  · rfl
  · simp [ht, hf] at hbreak

theorem State.settle_wentWrong {s : State} (ht : s.tag = false) (hf : s.forcedRequest = false) : s.settle.wentWrong = s.wentWrong := by
  rcases s.settle_cases with ⟨_, e⟩ | ⟨_, e⟩ | ⟨hbreak, -⟩
  · rw [e]
  · rw [e]; rfl
  · simp [ht, hf] at hbreak

end Sys2Proof.Machine
end

section
/-! PROOFS. A turn that a reset ends, beside the same turn without it, and a reset inside a traced instruction: O60. -/

namespace Sys2Proof.Machine

/-! ## A turn up to its boundary (60_exceptions R321, R335; log 27) -/

/-- `v` is where a reset meets the turn that begins at `s`, and `t` is where the turn ends without it. -/
structure MetBeforeBoundary (s v t : State) : Prop where
  reaches : cpuToBoundary s = .next v
  alike : v.AlikeToReset t
  wrong : s.wentWrong = true → v.wentWrong = true
  unwatched : State.Unwatched { s with tag := false } → v.wentWrong = t.wentWrong

/-- A turn in run mode is the CPU up to the boundary, and the boundary. -/
theorem cpuStep_metBeforeBoundary {s t : State} (hm : s.mode = .run) (h : cpuStep s = .next t) : ∃ v, MetBeforeBoundary s v t := by
  have htag (hs : State.Unwatched { s with tag := false }) : s.tagOpcode.Unwatched := by
    rw [State.tagOpcode_of_disabled (s := s) hs.disabled]
    exact hs
  rcases cpuStep_run hm with ⟨u, hstop, e⟩ | ⟨hnone, e⟩ <;> rw [e] at h
  · cases h
    obtain ⟨hmem, hsent, hlow, hfree, hdev, henv, hwrong⟩ := State.AlikeToReset.debugStop hstop
    exact ⟨s, by rw [cpuToBoundary, hstop], ⟨hmem, hsent, hlow, hfree, hdev, henv, hwrong⟩, id,
      fun hs => (State.debugStop_wentWrong hstop (htag hs).noTag (htag hs).noForced).symm⟩
  · obtain ⟨v, hv, h⟩ := onNext_eq_next h
    cases h
    refine ⟨v, by rw [cpuToBoundary, hnone]; exact hv, State.AlikeToReset.settle v, instruction_wrong (s := s.tagOpcode) hv, fun hs => ?_⟩
    obtain ⟨hvtag, hvforced⟩ := instruction_unwatched hv (htag hs)
    exact (State.settle_wentWrong hvtag hvforced).symm

/-- A source outside the core is no fault of the run (60_exceptions R322). -/
theorem ResetSource.cause_isWrong (source : ResetSource) : source.cause.isWrong = false := by
  cases source <;> rfl

theorem State.enterReset_source_wentWrong (source : ResetSource) (s : State) : (s.enterReset source.cause).wentWrong = s.wentWrong := by
  simp [source.cause_isWrong]

theorem takeReset_bdcReset_wentWrong (s : State) : (takeReset .bdcReset s).wentWrong = s.wentWrong := by
  simp [takeReset_wentWrong, ResetCause.isWrong]

/-- The end of a turn by a reset keeps memory and the mark of the run. -/
theorem State.endTurn_keeps (reset : TurnReset) (v : State) : (v.endTurn (some reset)).mem = v.mem ∧ (v.endTurn (some reset)).wentWrong = v.wentWrong := by
  cases reset with
  | source source => exact ⟨rfl, v.enterReset_source_wentWrong source⟩
  | bdcReset => exact ⟨(v.sameMemory_takeReset _).mem, takeReset_bdcReset_wentWrong v⟩

/-! ## Turns as inputs (log 25, log 27) -/

/-- In run mode, with no command, block or reply in progress, every reset of a turn takes place. -/
theorem State.turnReset_some {s : State} (h : s.takesCommands = true) (reset : TurnReset) : s.turnReset (some reset) = some reset := by
  cases reset with
  | source source => rfl
  | bdcReset => rw [State.turnReset_bdcReset, if_pos h]

section
variable {s : State} {rest : List Input} {commands : List Instr}

theorem step_turn {reset : Option TurnReset} (henv : s.env = .turn commands reset :: rest) : step s = cpuTurn commands reset { s with env := rest } :=
  step_input henv

/-- A turn with no reset is the CPU's, with the commands waiting for their stolen cycles. -/
theorem step_turn_run (hm : s.mode = .run) (ht : s.takesCommands = true) (henv : s.env = .turn commands none :: rest) :
    step s = onNext (cpuStep { s with env := rest, stolen := commands }) fun t => .next { t with stolen := [] } := by
  have htakes : State.takesCommands { s with env := rest } = true := ht
  rw [step_turn henv, cpuTurn_run (by exact hm), htakes]
  rfl

/-- A turn with a reset goes as far as the boundary. -/
theorem step_turn_reset (hm : s.mode = .run) (ht : s.takesCommands = true) {reset : TurnReset} (henv : s.env = .turn commands (some reset) :: rest) :
    step s = onNext (cpuToBoundary { s with env := rest, stolen := commands }) fun v => .next (v.endTurn (some reset)) := by
  have htakes : State.takesCommands { s with env := rest } = true := ht
  rw [step_turn henv, cpuTurn_run (by exact hm), State.turnReset_some htakes, htakes]
  rfl

/-- Where the CPU runs no instruction a BDC_RESET that the host can send is that command. -/
theorem step_turn_bdcReset (hm : s.mode ≠ .run) (ht : s.takesCommands = true) (henv : s.env = .turn commands (some .bdcReset) :: rest) :
    step s = .next (takeReset .bdcReset { s with env := rest }) := by
  have htakes : State.takesCommands { s with env := rest } = true := ht
  rw [step_turn henv, cpuTurn_idle (by exact hm), State.turnReset_some htakes]

end

/-! ## A reset inside a traced instruction (log 29) -/

/-- A TRACE1 code with a reset inside its instruction. -/
theorem step_cutTrace {s : State} (hb : s.bdcscr.bdmact = true) (hm : s.mode = .background) (hserial : s.serial = .idle) (hreply : s.reply = [])
    {rest : List Input} {source : ResetSource} {stored : Bool} (henv : s.env = .byte 0x10#8 (.cut source stored) :: rest) :
    step s = cutTrace source stored { s with env := rest } :=
  (step_trace1_code hm hserial hreply henv).trans (if_pos ⟨rfl, hb⟩)

/-- Settles O60: a turn is the CPU up to its boundary and then the boundary, or the reset in its place; a traced instruction is such a turn. -/
theorem resetAndCommandsInsideAnInstruction : Obligations.ResetAndCommandsInsideAnInstruction := by
  unfold Obligations.ResetAndCommandsInsideAnInstruction
  intro s t rest commands source
  refine ⟨fun hm hserial hreply hturn => ⟨fun henv => ?turn, fun reset henv => ?reset⟩,
    fun hm => ⟨fun henv => ?idle, fun henv => ?idleSource, fun hl hserial hreply henv => ?idleBdcReset⟩,
    fun hm hb hserial hreply => ⟨fun henv => ?cutBefore, fun henv htrace => ?cutAfter⟩⟩
  case turn =>
    rw [step_turn_run hm (State.takesCommands_run hm hserial hreply) henv, hturn]
    rfl
  case reset =>
    obtain ⟨v, hv⟩ := cpuStep_metBeforeBoundary (by exact hm) hturn
    obtain ⟨hmem, hwrong⟩ := v.endTurn_keeps reset
    refine ⟨v.endTurn (some reset), ?_, hmem.trans hv.alike.mem.symm, ?_, fun hs => hwrong.trans (hv.wrong hs), fun hu => hv.alike.wrong (hwrong.symm.trans hu),
      fun hbkpt hforced hcommands => hwrong.trans (hv.unwatched ⟨hbkpt, rfl, hforced, hcommands⟩)⟩
    · rw [step_turn_reset hm (State.takesCommands_run hm hserial hreply) henv, hv.reaches]
      rfl
    · cases reset with
      | source source => exact ⟨rfl, rfl, rfl, rfl, rfl, hv.alike.takeReset_eq (State.leaveReset_wentWrong _)⟩
      | bdcReset => exact hv.alike.takeReset_eq rfl
  case idle => rw [step_turn henv, cpuTurn_idle (by exact hm), State.turnReset_none]
  case idleSource =>
    rw [step_turn henv, cpuTurn_idle (by exact hm), State.turnReset_source]
    rfl
  case idleBdcReset => exact step_turn_bdcReset hm (by simp [State.takesCommands, hl, hserial, hreply]) henv
  case cutBefore =>
    rw [step_cutTrace hb hm hserial hreply henv]
    exact ⟨_, rfl, rfl, rfl, rfl, rfl, rfl⟩
  case cutAfter =>
    have hrun : runCommand .trace1 { s with env := rest } = .next t := by
      rw [runCommand_trace1 (by exact hb), ← htrace]
      exact (step_trace1 (s := { s with env := .byte 0x10#8 .boundary :: rest }) hb hm hserial hreply rfl nofun).symm
    rw [step_cutTrace hb hm hserial hreply henv, cutTrace, if_pos rfl, hrun]
    exact ⟨_, rfl, rfl, rfl, rfl, rfl, rfl⟩

end Sys2Proof.Machine
end

section
/-! PROOFS. Resets from outside, power-on and the wake-up request: O37, O38, O39 and O35. -/

namespace Sys2Proof.Machine

/-! ## What a reset writes (70_reset_and_hazards R370, R372) -/

/-- After a reset in normal mode BDCSCR reads $00 (10_state R47). -/
theorem Bdcscr.toByte_normalReset : Bdcscr.normalReset.toByte = 0x00#8 := rfl

/-- After a reset into active background mode the parameter of the device gives BDCSCR bits 4, 2 and 1 alone (10_state R47; log 41). -/
theorem Device.toByte_backgroundReset (d : Device) : d.backgroundReset.toByte = 0xC0#8 ||| (d.bdcscrResetBkgdLow &&& 0x16#8) := by
  have hbits : ∀ b : Byte, (⟨true, true, false, b.getLsbD 4, b.getLsbD 2, b.getLsbD 1⟩ : Bdcscr).toByte = 0xC0#8 ||| (b &&& 0x16#8) := by decide
  exact hbits d.bdcscrResetBkgdLow

theorem ResetCause.isWrong_eq (cause : ResetCause) : cause.isWrong = decide (cause = .illegalOpcode ∨ cause = .illegalAddress) := by
  cases cause <;> rfl

/-- With BKGD low the reset ends in active background mode. -/
theorem takeReset_bkgdLow {s : State} (h : s.bkgdLowAtResetEnd = true) (cause : ResetCause) :
    (takeReset cause s).mode = .background ∧ (takeReset cause s).bdcscr = s.dev.backgroundReset := by
  simp [takeReset, h]

/-- With BKGD high it ends in run mode. -/
theorem takeReset_bkgdHigh {s : State} (h : s.bkgdLowAtResetEnd = false) (cause : ResetCause) :
    (takeReset cause s).mode = .run ∧ (takeReset cause s).bdcscr = Bdcscr.normalReset := by
  simp [takeReset, h]

/-- Settles O37: entering the reset writes every field but BDCSCR and the mode, which its end takes from the level of BKGD. -/
theorem resetSequence : Obligations.ResetSequence := by
  unfold Obligations.ResetSequence
  intro cause s
  have hwrong := (takeReset_wentWrong cause s).trans (congrArg (s.wentWrong || ·) cause.isWrong_eq)
  have hhigh (h : s.bkgdLowAtResetEnd = false) : (takeReset cause s).mode = .run ∧ (takeReset cause s).bdcscr.toByte = 0x00#8 := by
    obtain ⟨hmode, hbdcscr⟩ := takeReset_bkgdHigh h cause
    exact ⟨hmode, hbdcscr ▸ Bdcscr.toByte_normalReset⟩
  have hlow (h : s.bkgdLowAtResetEnd = true) : (takeReset cause s).mode = .background ∧
      (takeReset cause s).bdcscr.toByte = 0xC0#8 ||| (s.dev.bdcscrResetBkgdLow &&& 0x16#8) ∧
      (s.dev.bdcscrResetBkgdLow = 0xC0#8 → (takeReset cause s).bdcscr.toByte = 0xC0#8) := by
    obtain ⟨hmode, hbdcscr⟩ := takeReset_bkgdLow h cause
    have hbyte := hbdcscr ▸ s.dev.toByte_backgroundReset
    exact ⟨hmode, hbyte, fun hparam => by rw [hbyte, hparam]; rfl⟩
  obtain ⟨hmem, hsent, -, -, hdev, henv, -⟩ := State.AlikeToReset.takeReset cause s
  refine ⟨?_, ?_, ?_, ?_, ?_, ?_, ?_, ?_, ?_, ?_, hhigh, hlow, rfl, hmem, hdev, henv, hsent, ?_, ?_, ?_, hwrong⟩ <;> simp [takeReset, resetAddress]

/-! ## Reset sources (60_exceptions R320, R329) -/

/-- A source takes effect unless another holds the core in reset or the COP is suspended (47_bdc_commands R296; log 33). -/
theorem State.resetFrom_active {s : State} {source : ResetSource} (hm : s.mode ≠ .reset) (hcop : source = .cop → s.bdcscr.bdmact = false) :
    s.resetFrom source = s.enterReset source.cause := by
  refine if_neg ?_
  cases source with
  | cop => simp [hm, hcop rfl]
  | pin | lvd => simp [hm]

theorem State.resetFrom_held {s : State} (source : ResetSource) (hm : s.mode = .reset) : s.resetFrom source = s := by
  simp [State.resetFrom, hm]

/-- The COP is suspended while BDMACT is 1 (47_bdc_commands R296). -/
theorem State.resetFrom_suspended {s : State} (h : s.bdcscr.bdmact = true) : s.resetFrom .cop = s := by
  simp [State.resetFrom, h]

theorem step_resetOn {s : State} {source : ResetSource} {rest : List Input} (henv : s.env = .resetOn source :: rest) :
    step s = .next (State.resetFrom source { s with env := rest }) := step_input henv

/-- Settles O38: each input is one case of `State.resetFrom`, a turn of a CPU that is held, or the end of the reset. -/
theorem resetInputs : Obligations.ResetInputs := by
  unfold Obligations.ResetInputs
  intro s rest
  refine ⟨fun source henv hm hcop => ?active, fun henv hb => ?suspended, fun source henv hm => ?held, fun henv hm => ?cpu, fun henv hm => ?release⟩
  case active =>
    rw [step_resetOn henv, State.resetFrom_active (by exact hm) (by exact hcop)]
    exact ⟨_, rfl, rfl, rfl, rfl, rfl, rfl⟩
  case suspended => rw [step_resetOn henv, State.resetFrom_suspended (by exact hb)]
  case held => rw [step_resetOn henv, State.resetFrom_held source (by exact hm)]
  case cpu => exact (step_input henv).trans (cpuStep_parked (.inr hm))
  case release =>
    rw [step_input henv]
    simp [event, hm]

/-! ## Power-on (70_reset_and_hazards R374; decision D26) -/

/-- What memory reads as after cells are written one after the other, where `f` gives the byte of each. -/
theorem Memory.read_foldl_write {f : Nat → Byte} {cells : List Host.Cell} (hcells : ∀ e ∈ cells, e.1 < addressSpace ∧ e.2 = f e.1) {m : Memory}
    (hm : m.wf = true) (p : Nat) :
    Memory.read (cells.foldl (fun m e => m.write e.1 e.2) m) p = if p ∈ cells.map Prod.fst then f p else m.read p := by
  induction cells generalizing m with
  | nil => rfl
  | cons e cells ih =>
    obtain ⟨⟨haddr, hbyte⟩, htail⟩ := List.forall_mem_cons.1 hcells
    rw [List.foldl_cons, ih htail (Memory.wf_write hm haddr e.2), Memory.read_write (Memory.wf_sorted hm), hbyte]
    by_cases he : e.1 = p
    · simp [he]
    · simp [he, Ne.symm he]

/-- The cells of a power-on input that asks for a byte at every address; `Device.fillRam` takes those of RAM. -/
def ramCells (want : Addr → Byte) : List Host.Cell := (List.range addressSpace).map fun n => (n, want (BitVec.ofNat 14 n))

theorem mem_ramCells {want : Addr → Byte} {e : Host.Cell} : e ∈ ramCells want ↔ e.1 < addressSpace ∧ e.2 = want (BitVec.ofNat 14 e.1) := by
  simp only [ramCells, List.mem_map, List.mem_range]
  constructor
  · rintro ⟨n, hn, rfl⟩
    exact ⟨hn, rfl⟩
  · rintro ⟨hn, hbyte⟩
    exact ⟨e.1, hn, Prod.ext rfl hbyte.symm⟩

/-- Every RAM address but those of X and PAGESEL takes the byte wanted. -/
theorem Device.read_fillRam_ramCells {d : Device} {m : Memory} (hm : m.wf = true) (want : Addr → Byte) {p : Addr} (hk : d.kindAt p = .ram) (hx : p ≠ xPhys)
    (hpage : p ≠ pageselPhys) : (d.fillRam m (ramCells want)).read p.toNat = want p := by
  have hsame : BitVec.ofNat 14 p.toNat = p := by simp
  have hram : d.ramByte (p.toNat, want p) = true := by
    have hx' : p.toNat ≠ xPhys.toNat := fun h => hx (BitVec.eq_of_toNat_eq h)
    have hpage' : p.toNat ≠ pageselPhys.toNat := fun h => hpage (BitVec.eq_of_toNat_eq h)
    simp only [Device.ramByte, hsame, hk, Bool.and_eq_true, decide_eq_true_eq, bne_iff_ne, beq_self_eq_true, and_true]
    exact ⟨⟨p.isLt, hx'⟩, hpage'⟩
  have hcell : (p.toNat, want p) ∈ (ramCells want).filter d.ramByte := List.mem_filter.2 ⟨mem_ramCells.2 ⟨p.isLt, by rw [hsame]⟩, hram⟩
  have hmem : p.toNat ∈ ((ramCells want).filter d.ramByte).map Prod.fst := List.mem_map_of_mem (f := Prod.fst) hcell
  unfold Device.fillRam
  rw [Memory.read_foldl_write (f := fun n => want (BitVec.ofNat 14 n)) (fun e he => mem_ramCells.1 (List.mem_filter.1 he).1) (Memory.wf_filter hm _), if_pos hmem, hsame]

/-- An address of neither X nor PAGESEL reads as memory does. -/
theorem State.byteAt_memory {s : State} {p : Addr} (hx : p ≠ xPhys) (hpage : p ≠ pageselPhys) : s.byteAt p = s.mem.read p.toNat := by
  rw [State.byteAt, if_neg hx, if_neg hpage]

/-- Power-on is a reset that refills RAM (log 20). -/
theorem powerOn_enters_reset {s t : State} {ram : List Host.Cell} {rest : List Input} (h : step { s with env := .powerOn ram :: rest } = .next t) :
    t.mode = .reset ∧ t.resetCause = .por ∧ t.mem = s.dev.fillRam s.mem ram ∧ t.dev = s.dev := by
  cases h
  exact ⟨rfl, rfl, rfl, rfl⟩

/-- Settles O39: the input that lists the byte wanted at every address. -/
theorem powerOnGivesAnyRam : Obligations.PowerOnGivesAnyRam := by
  unfold Obligations.PowerOnGivesAnyRam
  intro s rest want hm
  refine ⟨ramCells want, fun t ht => ?_⟩
  obtain ⟨hmode, hcause, hmem, hdev⟩ := powerOn_enters_reset ht
  refine ⟨hmode, hcause, hmem ▸ Device.wf_fillRam s.dev hm _, fun p hk hx hpage => ?ram, fun p hk => ?flash⟩
  case ram => rw [State.byteAt_memory hx hpage, hmem, Device.read_fillRam_ramCells hm want hk hx hpage]
  case flash =>
    have hnot : s.dev.kindAt p ≠ .ram := by simp [hk]
    rw [State.byteAt_flash (hdev ▸ hk), hmem, Device.read_fillRam hnot, State.byteAt_flash hk]

/-! ## The wake-up request (60_exceptions R333; decision D9) -/

/-- In wait and stop the request wakes the CPU as it arrives. -/
theorem State.setWake_asleep {s : State} (h : s.asleep = true) : s.setWake true = { s with wakeRequest := true }.wakeUp := by
  have hm : s.mode ≠ .reset := by
    rcases s.asleep_iff.1 h with e | e <;> simp [e]
  simp [State.setWake, hm, h]

theorem State.setWake_awake {s : State} (h : s.mode = .run ∨ s.mode = .background) (level : Bool) : s.setWake level = { s with wakeRequest := level } := by
  rcases h with h | h <;> simp [State.setWake, State.asleep, h]

/-- Settles O35: a turn in wait or stop looks at the request, and so does the input that asserts it. -/
theorem wakeUpResumes : Obligations.WakeUpResumes := by
  unfold Obligations.WakeUpResumes
  intro s rest
  refine ⟨fun ha henv hw => ?stays, fun ha henv hw => ?resumes, fun ha henv => ?wakes, fun level hm henv => ?awake⟩
  case stays => rw [step_empty henv, cpuStep_asleep ha, hw]; rfl
  case resumes => rw [step_empty henv, cpuStep_asleep ha, if_pos hw]; rfl
  case wakes =>
    have hwake := State.setWake_asleep (s := { s with env := rest }) ha
    exact (step_input henv).trans (congrArg Host.Outcome.next hwake)
  case awake =>
    have hwake := State.setWake_awake (s := { s with env := rest }) hm level
    exact (step_input henv).trans (congrArg Host.Outcome.next hwake)

end Sys2Proof.Machine
end

section
/-! PROOFS. Breakpoints before an opcode and at an access, and fetches from ILLEGAL_ADDR: O40, O41 and O8. -/

namespace Sys2Proof.Machine

/-! ## The address compared (10_state R49) -/

theorem State.breakpointAddress_eq (s : State) : s.breakpointAddress = s.bdcbkpt.extractLsb' 0 14 := BitVec.setWidth_eq_extractLsb' (by decide)

theorem State.breakpointHit_eq (s : State) (p : Addr) :
    s.breakpointHit p = (s.bdcscr.bkpten && s.bdcscr.fts && decide (p = s.bdcbkpt.extractLsb' 0 14)) := by
  rw [State.breakpointHit, s.breakpointAddress_eq]
  rfl

/-- With FTS 0 and the breakpoint enabled the opcode is tagged where PC is the breakpoint's address (60_exceptions R354). -/
theorem State.tagOpcode_eq {s : State} (hb : s.bdcscr.bkpten = true) (hf : s.bdcscr.fts = false) :
    s.tagOpcode = { s with tag := decide (s.pc = s.bdcbkpt.extractLsb' 0 14) } := by
  rw [State.tagOpcode, hb, hf, s.breakpointAddress_eq]
  rfl

/-- A tag is no part of what a reset leaves. -/
theorem takeReset_setTag (cause : ResetCause) (tag : Bool) (s : State) : takeReset cause { s with tag := tag } = takeReset cause s := rfl

theorem State.enterBackground_setTag (tag : Bool) (s : State) : State.enterBackground { s with tag := tag } = s.enterBackground := rfl

/-! ## A tagged opcode (60_exceptions R354, R356; decision D10) -/

/-- Where the opcode about to execute is tagged or a request is pending, the debug logic has the turn. -/
theorem cpuStep_stops {s t : State} (hm : s.mode = .run) (h : s.tagOpcode.debugStop = some t) : cpuStep s = .next t := by
  rcases cpuStep_run hm with ⟨u, hu, e⟩ | ⟨hnone, -⟩
  · rw [e, Option.some.inj (hu.symm.trans h)]
  · cases hnone.symm.trans h

/-- Otherwise the instruction has it. -/
theorem cpuStep_runs {s : State} (hm : s.mode = .run) (h : s.tagOpcode.debugStop = none) : cpuStep s = runInstr s.tagOpcode := by
  rcases cpuStep_run hm with ⟨u, hu, -⟩ | ⟨-, e⟩
  · cases h.symm.trans hu
  · exact e

theorem State.stopForDebug_enabled {s : State} (h : s.bdcscr.enbdm = true) : s.stopForDebug = s.enterBackground := if_pos h

theorem State.stopForDebug_disabled {s : State} (h : s.bdcscr.enbdm = false) : s.stopForDebug = takeReset .illegalOpcode s := if_neg (by simp [h])

/-- After a reset the breakpoint is disabled (10_state R47). -/
theorem takeReset_bkpten (cause : ResetCause) (s : State) : (takeReset cause s).bdcscr.bkpten = false := by
  rw [takeReset, State.leaveReset_bdcscr]
  split <;> rfl

/-- Settles O40: at the breakpoint's address the tag stops the CPU before its fetch; at another address there is no tag. -/
theorem taggedBreakpoint : Obligations.TaggedBreakpoint := by
  unfold Obligations.TaggedBreakpoint
  intro s henv hm hb hf
  have htag := State.tagOpcode_eq hb hf
  have hstops (hpc : s.pc = s.bdcbkpt.extractLsb' 0 14) : step s = .next s.tagOpcode.stopForDebug := by
    have hset : s.tagOpcode.tag = true := by rw [htag]; exact decide_eq_true hpc
    rw [step_empty henv, cpuStep_stops hm (State.debugStop_stops (.inl hset))]
  refine ⟨fun hpc he => ⟨?enabled, rfl, rfl⟩, fun hpc he => ⟨?disabled, takeReset_bkpten _ s⟩, fun hpc ht hforced hbackground => ?elsewhere⟩
  case enabled => rw [hstops hpc, State.stopForDebug_enabled (by exact he), htag, State.enterBackground_setTag]
  case disabled => rw [hstops hpc, State.stopForDebug_disabled (by exact he), htag, takeReset_setTag]
  case elsewhere =>
    have hsame : s.tagOpcode = s := by rw [htag, decide_eq_false hpc, ← ht]
    have hnone : s.tagOpcode.debugStop = none := by rw [hsame]; exact State.debugStop_none ht hforced hbackground
    rw [step_empty henv, cpuStep_runs hm hnone, hsame]

/-! ## A forced breakpoint (60_exceptions R355; decision D18) -/

theorem physRead_forced {p : Addr} {s t : State} {w : Byte} (h : physRead p s = .ok w t) : t.forcedRequest = (s.forcedRequest || s.breakpointHit p) := by
  unfold physRead at h
  split at h <;> cases h
  rfl

theorem physWrite_forced {p : Addr} {v : Byte} {s t : State} (h : physWrite p v s = .ok () t) : t.forcedRequest = (s.forcedRequest || s.breakpointHit p) := by
  unfold physWrite at h
  split at h <;> cases h
  exact (s.touch p).store_forcedRequest p v

theorem fetch_forced {p : Addr} {s t : State} {w : Byte} (h : fetch p s = .ok w t) : t.forcedRequest = (s.forcedRequest || s.breakpointHit p) := by
  rcases fetch_cases p s with ⟨-, e⟩ | ⟨-, v, n, e⟩ <;> cases e.symm.trans h
  rfl

/-- An access of the debug controller asks for no breakpoint (decision D18). -/
theorem bdcPhysRead_forced {p : Addr} {s t : State} {w : Byte} (h : bdcPhysRead p s = .ok w t) : t.forcedRequest = s.forcedRequest := by
  unfold bdcPhysRead at h
  split at h <;> cases h
  rfl

theorem bdcPhysWrite_forced {p : Addr} {v : Byte} {s t : State} (h : bdcPhysWrite p v s = .ok () t) : t.forcedRequest = s.forcedRequest := by
  unfold bdcPhysWrite at h
  split at h <;> cases h
  exact s.store_forcedRequest p v

/-- Settles O41: each access of the CPU goes through `State.touch` and none of the debug controller does; a pending request stops the CPU at the boundary. -/
theorem forcedBreakpoint : Obligations.ForcedBreakpoint := by
  unfold Obligations.ForcedBreakpoint
  intro s t p v w
  rw [← s.breakpointHit_eq]
  refine ⟨fun h => ?cpu, fun h => h.elim bdcPhysRead_forced bdcPhysWrite_forced, fun hm hforced ht => ?boundary⟩
  case cpu =>
    rcases h with h | h | h
    · exact physRead_forced h
    · exact physWrite_forced h
    · exact fetch_forced h
  case boundary =>
    rw [State.settle_moving (.inl hm) ht, State.debugStop_stops (.inr hforced)]
    rfl

/-! ## Fetches from ILLEGAL_ADDR (60_exceptions R325) -/

theorem fetch_illegal {p : Addr} {s : State} (h : s.dev.kindAt p = .illegal) : fetch p s = .abort .illegalAddress s := if_pos h

/-- The first illegal address among those of the instruction's bytes, with RAM or flash at the ones before it, ends the fetch. -/
theorem fetchInstr_illegal {s : State} (hb : s.bdcscr.bkpten = false) (hs : s.stores = []) {k : Nat} (hk : k < opLength (s.byteAt s.pc))
    (hbefore : ∀ j < k, s.unstated (s.pc + BitVec.ofNat 14 j) = false ∧ s.dev.kindAt (s.pc + BitVec.ofNat 14 j) ≠ .illegal)
    (hillegal : s.dev.kindAt (s.pc + BitVec.ofNat 14 k) = .illegal) : fetchInstr s = .abort .illegalAddress s := by
  have hfetch (j : Nat) (hj : j < k) : fetch (s.pc + BitVec.ofNat 14 j) s = .ok (s.byteAt (s.pc + BitVec.ofNat 14 j)) s :=
    fetch_plain hb hs (hbefore j hj).1 (hbefore j hj).2
  have hstop := fetch_illegal hillegal
  have hlength := opLength_cases (s.byteAt s.pc)
  obtain rfl | rfl | rfl : k = 0 ∨ k = 1 ∨ k = 2 := by omega
  · have h0 : fetch s.pc s = .abort .illegalAddress s := by simpa using hstop
    simp [fetchInstr, h0]
  · have h0 : fetch s.pc s = .ok (s.byteAt s.pc) s := by simpa using hfetch 0 (by omega)
    have hlong : opLength (s.byteAt s.pc) ≠ 1 := by omega
    simp [fetchInstr, h0, hlong, hstop]
  · have h0 : fetch s.pc s = .ok (s.byteAt s.pc) s := by simpa using hfetch 0 (by omega)
    have h1 := hfetch 1 (by omega)
    have hlong : opLength (s.byteAt s.pc) = 3 := by omega
    simp [fetchInstr, h0, hlong, h1, hstop]

/-- A fetch that ends so resets the machine, and nothing of the instruction happens (60_exceptions R321). -/
theorem runInstr_of_aborted {s t : State} {cause : ResetCause} (h : fetchInstr s = .abort cause t) : runInstr s = .next (takeReset cause t) := by
  rcases runInstr_cases s with ⟨i, u, hu, -⟩ | ⟨cause', u, hu, e⟩ <;> cases hu.symm.trans h
  exact e

/-- Settles O8: an illegal address at the first, the second and the third byte. -/
theorem fetchFromIllegalAddressResets : Obligations.FetchFromIllegalAddressResets := by
  unfold Obligations.FetchFromIllegalAddressResets
  intro s henv hm hb hforced hbackground hs
  have hresets {k : Nat} (hk : k < opLength (s.byteAt s.pc))
      (hbefore : ∀ j < k, s.unstated (s.pc + BitVec.ofNat 14 j) = false ∧ s.dev.kindAt (s.pc + BitVec.ofNat 14 j) ≠ .illegal)
      (hillegal : s.dev.kindAt (s.pc + BitVec.ofNat 14 k) = .illegal) : step s = .next (takeReset .illegalAddress s) := by
    rw [step_empty henv, cpuStep_run_plain hm hb hforced hbackground,
      runInstr_of_aborted (fetchInstr_illegal (s := { s with tag := false }) hb hs hk hbefore hillegal), takeReset_setTag]
  refine ⟨fun h0 => hresets (k := 0) (opLength_pos _) nofun (by simpa using h0), fun hk0 hu0 hlong => ⟨fun h1 => ?second, fun hk1 hu1 hthree h2 => ?third⟩⟩
  case second =>
    refine hresets (k := 1) (by omega) (fun j hj => ?_) h1
    obtain rfl : j = 0 := by omega
    simpa using ⟨hu0, hk0⟩
  case third =>
    refine hresets (k := 2) (by omega) (fun j hj => ?_) h2
    obtain rfl | rfl : j = 0 ∨ j = 1 := by omega
    · simpa using ⟨hu0, hk0⟩
    · exact ⟨hu1, hk1⟩

end Sys2Proof.Machine
end

section
/-! PROOFS. Every step gives a next state, no step takes back the mark of a run gone wrong, and what sets it: O55. -/

namespace Sys2Proof.Machine

/-! ## The mark of a run gone wrong is kept (60_exceptions R322; log 36) -/

/-- Where the mark `w` is set, it is set in `s`. -/
def State.Keeps (w : Bool) (s : State) : Prop := w = true → s.wentWrong = true

/-- The outcome is a next state, and one in which the mark is kept. -/
def Continues (w : Bool) (o : Host.Outcome State Fault Refusal) : Prop := ∃ t, o = .next t ∧ t.Keeps w

theorem Continues.onNext {w : Bool} {o : Host.Outcome State Fault Refusal} {f : State → Host.Outcome State Fault Refusal} (ho : Continues w o)
    (hf : ∀ t, t.Keeps w → Continues w (f t)) : Continues w (onNext o f) := by
  obtain ⟨t, rfl, ht⟩ := ho
  exact hf t ht

section
variable {w : Bool} {s : State} (hs : s.Keeps w)
include hs

theorem State.Keeps.of_eq {t : State} (h : t.wentWrong = s.wentWrong) : t.Keeps w := fun hw => h.trans (hs hw)

theorem State.Keeps.alike {t : State} (h : s.AlikeToReset t) : t.Keeps w := fun hw => h.wrong (hs hw)

theorem State.Keeps.takeReset (cause : ResetCause) : (takeReset cause s).Keeps w := hs.alike (State.AlikeToReset.takeReset cause s)

theorem State.Keeps.enterReset (cause : ResetCause) : (s.enterReset cause).Keeps w := fun hw => by simp [hs hw]

theorem State.Keeps.resetFrom (source : ResetSource) : (s.resetFrom source).Keeps w := by
  unfold State.resetFrom
  split
  · exact hs
  · exact hs.enterReset _

theorem State.Keeps.endTurn (reset : Option TurnReset) : (s.endTurn reset).Keeps w := by
  cases reset with
  | none => exact hs
  | some r => exact hs.of_eq (s.endTurn_keeps r).2

theorem State.Keeps.setWake (level : Bool) : (s.setWake level).Keeps w := by
  unfold State.setWake
  split
  · exact hs
  · split <;> exact hs

end

/-- An access ends in a next state, a reset's where it is abandoned. -/
theorem Access.finish_continues {w : Bool} {x : Access Unit} (hx : x.state.Keeps w) : Continues w x.finish := by
  cases x with
  | ok v t => exact ⟨t, rfl, hx⟩
  | abort cause t => exact ⟨_, rfl, State.Keeps.takeReset hx cause⟩

/-! ## Instructions of the CPU -/

section
variable (len : Addr) (a : Byte) (f : Byte → State → State) (s : State)

theorem readOperand_next : ∃ t, readOperand len a f s = .next t := Access.finish_next _

theorem writeOperand_next (v : Byte) (g : State → State) : ∃ t, writeOperand len a v g s = .next t := Access.finish_next _

theorem modifyOperand_next (g : Byte → Byte) : ∃ t, modifyOperand len a g f s = .next t := Access.finish_next _

theorem moveOperand_next (dst : Byte) : ∃ t, moveOperand len a dst f s = .next t := Access.finish_next _

end

/-- Every meaning of an instruction of the CPU is a next state (60_exceptions R328). -/
theorem exec_cpu_next {i : Instr} (hc : isCommand i = false) (s : State) : ∃ t, exec i s = .next t := by
  unfold exec
  cases i with
  | bdcReset | background | readStatus | writeControl | readByte | readByteWs | writeByte | writeByteWs | readBkpt | writeBkpt | go | trace1
  | readBlock | writeBlock | readA | writeA | readCcrPc | writeCcrPc | readSpc | writeSpc | sync => cases hc
  | movImm | clrDir | clrSrt | staDir | staSrt | clrIx | clrX | staIx | staX | tax | ldxImm | movImmIx => exact writeOperand_next _ _ _ _ _
  | bset | bclr | incTny | decTny | incDir | decDir | dbnzDir | incIx | incX | decIx | decX | bsetIx | bsetX | bclrIx | bclrX | dbnzIx | dbnzX =>
    exact modifyOperand_next _ _ _ _ _
  | movDir | ldxDir | ldxIx | stxDir | movIxDir | movDirIx | tstDir | tstIx | tstX => exact moveOperand_next _ _ _ _ _
  | brset | brclr | cbeqDir | subDir | cmpDir | sbcDir | andDir | ldaDir | eorDir | adcDir | oraDir | addDir | addTny | subTny | ldaSrt
  | adcIx | adcX | sbcIx | sbcX | andIx | andX | oraIx | oraX | eorIx | eorX | cmpIx | cmpX | addIx | addX | subIx | subX
  | brsetIx | brsetX | brclrIx | brclrX | cbeqIx | cbeqX | ldaIx | txa => exact readOperand_next _ _ _ _
  | _ => exact ⟨_, rfl⟩

section
variable {w : Bool} {s : State} (hs : s.Keeps w)
include hs

theorem instruction_continues : Continues w (instruction s) := by
  have hnext : ∃ t, instruction s = .next t := by
    unfold instruction
    cases hi : fetchInstr s with
    | abort cause u => exact ⟨_, rfl⟩
    | ok i u =>
      obtain ⟨op, b1, b2, rfl⟩ := fetchInstr_decodes hi
      exact exec_cpu_next (isCommand_decodeOp op b1 b2) _
  obtain ⟨t, ht⟩ := hnext
  exact ⟨t, ht, fun hw => instruction_wrong ht (hs hw)⟩

theorem cpuStep_continues : Continues w (cpuStep s) := by
  rcases s.parked_or_moving with hp | hm | ha
  · rw [cpuStep_parked hp]
    exact ⟨s, rfl, hs⟩
  · rcases cpuStep_run hm with ⟨t, ht, e⟩ | ⟨-, e⟩ <;> rw [e]
    · exact ⟨t, rfl, State.Keeps.alike (s := s.tagOpcode) hs (State.AlikeToReset.debugStop ht)⟩
    · exact (instruction_continues (s := s.tagOpcode) hs).onNext fun t ht => ⟨t.settle, rfl, ht.alike (State.AlikeToReset.settle t)⟩
  · rw [cpuStep_asleep ha]
    split <;> exact ⟨_, rfl, hs⟩

theorem cpuToBoundary_continues : Continues w (cpuToBoundary s) := by
  unfold cpuToBoundary
  split
  · exact ⟨s, rfl, hs⟩
  · exact instruction_continues (s := s.tagOpcode) hs

theorem cpuTurn_continues (commands : List Instr) (reset : Option TurnReset) : Continues w (cpuTurn commands reset s) := by
  by_cases hm : s.mode = .run
  · rw [cpuTurn_run hm]
    refine Continues.onNext ?_ fun t ht => ⟨_, rfl, ht.endTurn _⟩
    split
    · exact cpuToBoundary_continues (by exact hs)
    · exact cpuStep_continues (by exact hs)
  · rw [cpuTurn_idle hm]
    split
    · exact cpuStep_continues hs
    · exact ⟨_, rfl, hs.resetFrom _⟩
    · exact ⟨_, rfl, hs.takeReset _⟩

/-! ## Commands and bytes of the host -/

theorem inBackground_continues {n : Nat} {f : State → State} (hf : (f s).Keeps w) : Continues w (inBackground n f s) := by
  unfold inBackground
  split
  · exact ⟨_, rfl, hf⟩
  · split <;> exact ⟨_, rfl, hs⟩

theorem blockRead_keeps (p : Addr) : (blockRead p s).state.Keeps w := by
  by_cases hp : s.dev.kindAt p = .illegal
  · rw [blockRead_illegal hp]; exact hs
  · rw [blockRead_legal hp]; exact hs

theorem blockWrite_keeps (p : Addr) (v : Byte) : (blockWrite p v s).state.Keeps w := by
  by_cases hp : s.dev.kindAt p = .illegal
  · rw [blockWrite_illegal hp]; exact hs
  · rw [blockWrite_legal hp]; exact hs.of_eq (s.store_wentWrong p v)

theorem exec_command_continues {i : Instr} (hc : isCommand i = true) : Continues w (exec i s) := by
  have hcommand : (hostCommand i s).state.Keeps w := hs.of_eq (hostCommand_wentWrong i s)
  unfold exec
  cases i with
  | bdcReset => exact ⟨_, rfl, hs.takeReset _⟩
  | background => exact ⟨_, rfl, hcommand⟩
  | writeControl | readStatus | readBkpt | writeBkpt | sync => exact ⟨_, rfl, hs⟩
  | readByte | readByteWs | writeByte | writeByteWs => exact Access.finish_continues hcommand
  | go | trace1 | readA | writeA | readCcrPc | writeCcrPc | readSpc | writeSpc => exact inBackground_continues hs hs
  | readBlock =>
    refine (?_ : Continues w (execReadBlock _ s))
    unfold execReadBlock
    split
    · exact Access.finish_continues (blockRead_keeps hs _)
    · exact ⟨_, rfl, hs⟩
  | writeBlock =>
    refine (?_ : Continues w (execWriteBlock _ _ s))
    unfold execWriteBlock
    split
    · exact Access.finish_continues (blockWrite_keeps hs _ _)
    · exact ⟨_, rfl, hs⟩
  | _ => cases hc

theorem runCommand_continues {i : Instr} (hc : isCommand i = true) : Continues w (runCommand i s) := by
  refine (exec_command_continues hs hc).onNext fun t ht => ?_
  have ht' : State.Keeps w { t with collision := false } := ht
  split
  · exact cpuStep_continues ht'
  · exact ⟨_, rfl, ht'.alike (State.AlikeToReset.settle _)⟩

theorem completeCommand_continues {i : Instr} (hc : isCommand i = true) (timing : Timing) : Continues w (completeCommand i timing s) := by
  cases timing with
  | boundary => exact runCommand_continues hs hc
  | collide => exact runCommand_continues (s := { s with collision := true }) hs hc
  | cut source stored =>
    refine (?_ : Continues w (if i = .trace1 ∧ s.bdcscr.bdmact = true then cutTrace source stored s else runCommand i s))
    split
    · refine Continues.onNext ?_ fun t ht => ⟨_, rfl, ht.enterReset _⟩
      split
      · exact runCommand_continues hs rfl
      · exact ⟨s, rfl, hs⟩
    · exact runCommand_continues hs hc

theorem hostByte_continues (b : Byte) (timing : Timing) : Continues w (hostByte b timing s) := by
  cases hreply : s.reply with
  | cons r rs =>
    rw [hostByte_reply hreply]
    exact ⟨_, rfl, hs⟩
  | nil =>
    cases hserial : s.serial with
    | idle | receiving =>
      have hr : s.serial.noBlock = true := by rw [hserial]; rfl
      cases hi : (s.serial.receive b).2 with
      | none =>
        rw [hostByte_incomplete hreply hr hi]
        exact ⟨_, rfl, hs⟩
      | some i =>
        obtain ⟨hc, e⟩ := hostByte_complete (tm := timing) hreply hr hi
        rw [e]
        exact completeCommand_continues (by exact hs) hc timing
    | readBlock p =>
      rw [hostByte_readBlock hreply hserial]
      exact Access.finish_continues (Access.bind_state (blockRead_keeps hs p) fun _ _ ht => ht)
    | writeBlock p =>
      rw [hostByte_writeBlock hreply hserial]
      exact Access.finish_continues (blockWrite_keeps hs p b)
    | readBlockRefused | writeBlockRefused =>
      simp only [hostByte, hreply, hserial]
      exact ⟨_, rfl, hs⟩

/-! ## Steps -/

theorem event_continues (e : Input) : Continues w (event e s) := by
  cases e with
  | cpu => exact cpuStep_continues hs
  | turn commands reset => exact cpuTurn_continues hs commands reset
  | powerOn ram => exact ⟨_, rfl, hs.enterReset .por⟩
  | resetOn source => exact ⟨_, rfl, hs.resetFrom source⟩
  | resetOff =>
    refine ⟨_, rfl, ?_⟩
    split
    · exact hs.of_eq s.leaveReset_wentWrong
    · exact hs
  | wake level => exact ⟨_, rfl, hs.setWake level⟩
  | bkgd low => exact ⟨_, rfl, hs⟩
  | softReset =>
    refine ⟨_, rfl, ?_⟩
    split <;> exact hs
  | sync =>
    refine (?_ : Continues w (if s.listening then runCommand .sync s else .next s))
    split
    · exact runCommand_continues hs rfl
    · exact ⟨s, rfl, hs⟩
  | byte b timing =>
    refine (?_ : Continues w (if s.listening then hostByte b timing s else .next s))
    split
    · exact hostByte_continues hs b timing
    · exact ⟨s, rfl, hs⟩

theorem step_continues : Continues w (step s) := by
  cases henv : s.env with
  | nil =>
    rw [step_empty henv]
    exact cpuStep_continues hs
  | cons e rest =>
    rw [step_input henv]
    exact event_continues (by exact hs) e

end

/-! ## What sets the mark -/

/-- A run that has gone wrong has the illegal opcode or the illegal address on record as the cause of its last reset (60_exceptions R322, R327). -/
def State.WrongOnRecord (s : State) : Prop := s.wentWrong = true → s.resetCause = .illegalOpcode ∨ s.resetCause = .illegalAddress

theorem State.wrongOnRecord_of_right {s : State} (h : s.wentWrong = false) : s.WrongOnRecord := fun hw => Bool.noConfusion (h.symm.trans hw)

/-- A reset out of a run that has not gone wrong sets the mark for its own cause. -/
theorem State.wrongOnRecord_takeReset {s : State} (h : s.wentWrong = false) (cause : ResetCause) : (takeReset cause s).WrongOnRecord := by
  intro hw
  have hwrong : cause.isWrong = true := by simpa [takeReset_wentWrong, h] using hw
  have hcause : (takeReset cause s).resetCause = cause := by simp [takeReset]
  rw [hcause]
  cases cause <;> simp_all [ResetCause.isWrong]

/-- The illegal-opcode reset is one of the two, whatever came before. -/
theorem State.wrongOnRecord_illegalOpcode (s : State) : (takeReset .illegalOpcode s).WrongOnRecord := fun _ => .inl (by simp [takeReset])

theorem State.WrongOnRecord.debugStop {s t : State} (hs : s.WrongOnRecord) (h : s.debugStop = some t) : t.WrongOnRecord := by
  rcases State.debugStop_eq_some h with rfl | ⟨-, rfl⟩
  · exact hs
  · exact s.wrongOnRecord_illegalOpcode

theorem State.WrongOnRecord.settle {s : State} (hs : s.WrongOnRecord) : s.settle.WrongOnRecord := by
  rcases s.settle_cases with ⟨_, e⟩ | ⟨_, e⟩ | ⟨-, e⟩ <;> rw [e]
  · exact hs
  · exact hs
  · exact s.wrongOnRecord_illegalOpcode

/-- An instruction sets the mark by a reset alone, its own or that of BGND with ENBDM 0 (60_exceptions R324). -/
theorem instruction_wrongOnRecord {s t : State} (hs : s.wentWrong = false) (h : instruction s = .next t) : t.WrongOnRecord := by
  obtain ⟨j, hj⟩ := instruction_completes (wentWrong_keptByAccesses false) (fun _ _ h => h) (fun h => h) hs h
  rcases hj with ⟨cause, u, hu, rfl⟩ | ⟨v, u, hu, rfl⟩
  · exact State.wrongOnRecord_takeReset hu cause
  · rcases lastOperation_cases j v u with ⟨_, _, _, _, _, _, _, _, _, e⟩ | e <;> rw [e]
    · exact State.wrongOnRecord_of_right hu
    · rcases u.stopForDebug_cases with ⟨-, e⟩ | ⟨-, e⟩ <;> rw [e]
      · exact State.wrongOnRecord_of_right hu
      · exact u.wrongOnRecord_illegalOpcode

theorem cpuStep_wrongOnRecord {s t : State} (hs : s.wentWrong = false) (h : cpuStep s = .next t) : t.WrongOnRecord := by
  rcases s.parked_or_moving with hp | hm | ha
  · rw [cpuStep_parked hp] at h
    cases h
    exact State.wrongOnRecord_of_right hs
  · rcases cpuStep_run hm with ⟨u, hu, e⟩ | ⟨-, e⟩ <;> rw [e] at h
    · cases h
      exact State.WrongOnRecord.debugStop (s := s.tagOpcode) (State.wrongOnRecord_of_right hs) hu
    · obtain ⟨u, hu, h⟩ := onNext_eq_next h
      cases h
      exact (instruction_wrongOnRecord (s := s.tagOpcode) hs hu).settle
  · rw [cpuStep_asleep ha] at h
    cases h
    split <;> exact State.wrongOnRecord_of_right hs

/-- Settles O55: every case of a step gives a next state that keeps the mark, and the CPU's turn sets it by one of the two resets. -/
theorem everyStepGivesANextState : Obligations.EveryStepGivesANextState := by
  unfold Obligations.EveryStepGivesANextState
  intro s
  obtain ⟨t, ht, hkeeps⟩ := step_continues (w := s.wentWrong) (s := s) id
  exact ⟨t, ht, hkeeps, fun henv hs => cpuStep_wrongOnRecord hs (step_empty henv ▸ ht)⟩

end Sys2Proof.Machine
end

section
/-! PROOFS. What an instruction does to the debug registers, and how a turn of the CPU leaves run mode: O56 and O58. -/

namespace Sys2Proof.Machine

/-! ## Debug registers (10_state R40; 60_exceptions R341) -/

/-- `u` has the debug registers, the serial state and the reply of `s`; BDMACT and WS may differ. -/
structure State.SameDebug (s u : State) : Prop where
  bdcbkpt : u.bdcbkpt = s.bdcbkpt
  enbdm : u.bdcscr.enbdm = s.bdcscr.enbdm
  bkpten : u.bdcscr.bkpten = s.bdcscr.bkpten
  fts : u.bdcscr.fts = s.bdcscr.fts
  wsf : u.bdcscr.wsf = s.bdcscr.wsf
  serial : u.serial = s.serial
  reply : u.reply = s.reply

theorem State.SameDebug.refl (s : State) : s.SameDebug s := ⟨rfl, rfl, rfl, rfl, rfl, rfl, rfl⟩

theorem State.SameDebug.trans {s t u : State} (h : s.SameDebug t) (h' : t.SameDebug u) : s.SameDebug u :=
  ⟨h'.bdcbkpt.trans h.bdcbkpt, h'.enbdm.trans h.enbdm, h'.bkpten.trans h.bkpten, h'.fts.trans h.fts, h'.wsf.trans h.wsf, h'.serial.trans h.serial,
    h'.reply.trans h.reply⟩

theorem State.sameDebug_write (s : State) (p : Addr) (v : Byte) : s.SameDebug ((s.touch p).store p v) := by
  constructor <;> simp [State.touch]

/-- Without a command waiting for a stolen cycle no access reaches the debug registers. -/
theorem State.SameDebug.keptByAccesses (s : State) : KeptByAccesses fun u => s.SameDebug u ∧ u.stolen = [] where
  advance _ h := ⟨h.1.trans ⟨rfl, rfl, rfl, rfl, rfl, rfl, rfl⟩, h.2⟩
  read _ h := ⟨h.1.trans ⟨rfl, rfl, rfl, rfl, rfl, rfl, rfl⟩, h.2⟩
  write {u} p v h := ⟨h.1.trans (u.sameDebug_write p v), (State.store_stolen _ p v).trans h.2⟩
  stolen h := by rw [stolenCycle_none h.2]; exact h

/-- The last operation changes BDMACT and WS alone, but for BGND with ENBDM 0, which resets (60_exceptions R324). -/
theorem State.sameDebug_lastOperation (j : Instr) (v : Byte) (u : State) :
    u.SameDebug (lastOperation j v u) ∨ lastOperation j v u = takeReset .illegalOpcode u := by
  rcases lastOperation_cases j v u with ⟨_, _, _, _, _, _, _, _, _, e⟩ | e <;> rw [e]
  · exact .inl ⟨rfl, rfl, rfl, rfl, rfl, rfl, rfl⟩
  · rcases u.stopForDebug_cases with ⟨-, e⟩ | ⟨-, e⟩ <;> rw [e]
    · exact .inl ⟨rfl, rfl, rfl, rfl, rfl, rfl, rfl⟩
    · exact .inr rfl

/-- Settles O56: the accesses and the last operation keep the debug registers, and all else is a reset. -/
theorem programsDoNotReachDebugRegisters : Obligations.ProgramsDoNotReachDebugRegisters := by
  unfold Obligations.ProgramsDoNotReachDebugRegisters
  intro i s t hc hstolen h
  rcases exec_completes (State.SameDebug.keptByAccesses s) hc ⟨State.SameDebug.refl s, hstolen⟩ h with ⟨cause, u, -, rfl⟩ | ⟨v, u, ⟨hu, -⟩, rfl⟩
  · exact .inr ⟨cause, u, rfl⟩
  · rcases u.sameDebug_lastOperation (native i) v with hlast | e
    · obtain ⟨hbdcbkpt, henbdm, hbkpten, hfts, hwsf, hserial, hreply⟩ := hu.trans hlast
      exact .inl ⟨hbdcbkpt, henbdm, hbkpten, hfts, hwsf, hserial, hreply⟩
    · exact .inr ⟨_, u, e⟩

/-! ## The mode after an instruction (60_exceptions R340) -/

/-- No reset ends in wait or stop. -/
theorem takeReset_awake (cause : ResetCause) (s : State) : (takeReset cause s).asleep = false := by
  cases h : s.bkgdLowAtResetEnd <;> simp [State.asleep, takeReset, h]

theorem State.branchIf_mode (s : State) (taken : Bool) (rr : Byte) : (s.branchIf taken rr).mode = s.mode := by
  unfold State.branchIf
  split <;> rfl

/-- WAIT and STOP enter their own mode or none. -/
theorem State.sleep_mode (m : Mode) (s : State) : (s.sleep m).mode = s.mode ∨ (s.sleep m).mode = m := by
  unfold State.sleep
  split
  · exact .inl rfl
  · exact .inr rfl

/-- Three native instructions alone can change the mode. -/
theorem lastOperation_mode (j : Instr) (v : Byte) (u : State) : (j = .wait ∨ j = .stop ∨ j = .bgnd) ∨ (lastOperation j v u).mode = u.mode := by
  cases j with
  | wait => exact .inl (.inl rfl)
  | stop => exact .inl (.inr (.inl rfl))
  | bgnd => exact .inl (.inr (.inr rfl))
  | brset | brclr | bra | bcc | bcs | bne | beq | cbeqDir | cbeqa | dbnzDir | dbnza => exact .inr (State.branchIf_mode _ _ _)
  | _ => exact .inr rfl

/-- Two alone lead to wait or stop. -/
theorem lastOperation_asleep {j : Instr} {v : Byte} {u : State} (hu : u.mode = .run) (h : (lastOperation j v u).asleep = true) : j = .wait ∨ j = .stop := by
  rcases lastOperation_mode j v u with (rfl | rfl | rfl) | hmode
  · exact .inl rfl
  · exact .inr rfl
  · replace h : u.stopForDebug.asleep = true := h
    rcases u.stopForDebug_cases with ⟨-, e⟩ | ⟨-, e⟩ <;> rw [e] at h
    · cases h
    · cases (takeReset_awake _ u).symm.trans h
  · simp [State.asleep, hmode, hu] at h

/-- BGND alone leads to active background mode. -/
theorem lastOperation_background {j : Instr} {v : Byte} {u : State} (hu : u.mode = .run) (h : (lastOperation j v u).mode = .background) : j = .bgnd := by
  have hsleep {m : Mode} (hm : m ≠ .background) : (u.sleep m).mode ≠ .background := by
    rcases u.sleep_mode m with e | e <;> rw [e]
    · simp [hu]
    · exact hm
  rcases lastOperation_mode j v u with (rfl | rfl | rfl) | hmode
  · exact absurd h (hsleep (by decide))
  · exact absurd h (hsleep (by decide))
  · rfl
  · rw [hmode, hu] at h
    cases h

/-- No pseudo instruction is assembled to one of the three (30_encoding R120). -/
theorem native_eq_modeChanging {i j : Instr} (hj : j = .wait ∨ j = .stop ∨ j = .bgnd) (h : native i = j) : i = j := by
  rcases hj with rfl | rfl | rfl
  · cases i with
    | wait => rfl
    | _ => cases h
  · cases i with
    | stop => rfl
    | _ => cases h
  · cases i with
    | bgnd => rfl
    | _ => cases h

/-! ## A turn in run mode (60_exceptions R340) -/

/-- A property that nothing an instruction does up to its last operation destroys, its fetches among it. -/
structure KeptInside (P : State → Prop) : Prop extends KeptByAccesses P where
  fetch : ∀ {s : State} (p : Addr) (n : Nat), P s → P { s.touch p with freeCount := n }
  awake : ∀ {s : State}, P s → P { s with afterSleep := false }

/-- An instruction resets, or is one that the CPU has fetched and ends in its last operation. -/
theorem KeptInside.instruction {P : State → Prop} (hP : KeptInside P) {s t : State} (hs : P s) (h : instruction s = .next t) :
    (∃ cause u, t = takeReset cause u) ∨ ∃ i v u, (∃ u', fetchInstr s = .ok i u') ∧ P u ∧ t = lastOperation (native i) v u := by
  have hfetched := fetchInstr_keeps hP.fetch hs
  unfold Machine.instruction at h
  cases hi : fetchInstr s with
  | abort cause u =>
    rw [hi] at h
    cases h
    exact .inl ⟨cause, u, rfl⟩
  | ok i u =>
    obtain ⟨op, b1, b2, rfl⟩ := fetchInstr_decodes hi
    rw [hi] at hfetched h
    rcases exec_completes hP.toKeptByAccesses (isCommand_decodeOp op b1 b2) (hP.awake hfetched) h with ⟨cause, w, -, rfl⟩ | ⟨v, w, hw, rfl⟩
    · exact .inl ⟨cause, w, rfl⟩
    · exact .inr ⟨_, v, w, ⟨u, rfl⟩, hw, rfl⟩

/-- The CPU runs, and no command of the host waits. -/
structure State.RunsAlone (s : State) : Prop where
  mode : s.mode = .run
  noStolen : s.stolen = []

theorem State.RunsAlone.keptInside : KeptInside State.RunsAlone where
  advance _ h := ⟨h.mode, h.noStolen⟩
  read _ h := ⟨h.mode, h.noStolen⟩
  write p v h := ⟨(State.store_mode _ p v).trans h.mode, (State.store_stolen _ p v).trans h.noStolen⟩
  stolen h := by rw [stolenCycle_none h.noStolen]; exact h
  fetch _ _ h := ⟨h.mode, h.noStolen⟩
  awake h := ⟨h.mode, h.noStolen⟩

/-- Neither a breakpoint, nor a BACKGROUND request, nor a trace can stop the CPU at the next boundary. -/
structure State.Undisturbed (s : State) : Prop where
  runs : s.RunsAlone
  unwatched : s.Unwatched
  noBackground : s.backgroundRequest = false
  noTrace : s.trace = false

theorem State.Unwatched.fetch {s : State} (h : s.Unwatched) (p : Addr) (n : Nat) : State.Unwatched { s.touch p with freeCount := n } :=
  ⟨(h.touch p).disabled, (h.touch p).noTag, (h.touch p).noForced, (h.touch p).noStolen⟩

theorem State.Undisturbed.keptInside : KeptInside State.Undisturbed where
  advance len h := ⟨State.RunsAlone.keptInside.advance len h.runs, State.Unwatched.keptByAccesses.advance len h.unwatched, h.noBackground, h.noTrace⟩
  read p h := ⟨State.RunsAlone.keptInside.read p h.runs, State.Unwatched.keptByAccesses.read p h.unwatched, h.noBackground, h.noTrace⟩
  write p v h := ⟨State.RunsAlone.keptInside.write p v h.runs, State.Unwatched.keptByAccesses.write p v h.unwatched,
    (State.store_backgroundRequest _ p v).trans h.noBackground, (State.store_trace _ p v).trans h.noTrace⟩
  stolen h := by rw [stolenCycle_none h.runs.noStolen]; exact h
  fetch p n h := ⟨State.RunsAlone.keptInside.fetch p n h.runs, h.unwatched.fetch p n, h.noBackground, h.noTrace⟩
  awake h := ⟨State.RunsAlone.keptInside.awake h.runs,
    ⟨h.unwatched.disabled, h.unwatched.noTag, h.unwatched.noForced, h.unwatched.noStolen⟩, h.noBackground, h.noTrace⟩

/-- Then the boundary changes nothing, also where BGND has stopped the CPU or has reset it. -/
theorem State.Undisturbed.settle_lastOperation {u : State} (h : u.Undisturbed) (j : Instr) (v : Byte) :
    (lastOperation j v u).settle = lastOperation j v u := by
  rcases lastOperation_cases j v u with ⟨_, _, _, _, _, _, _, _, _, e⟩ | e <;> rw [e]
  · exact State.settle_quiet (by exact h.unwatched.noTag) (by exact h.unwatched.noForced) (by exact h.noBackground) (by exact h.noTrace)
  · rcases u.stopForDebug_cases with ⟨-, e⟩ | ⟨-, e⟩ <;> rw [e]
    · exact State.settle_parked (.inl rfl)
    · exact State.settle_takeReset _ u

/-- Stopping for the debug logic is not sleeping. -/
theorem State.debugStop_awake {s t : State} (h : s.debugStop = some t) : t.asleep = false := by
  rcases State.debugStop_eq_some h with rfl | ⟨-, rfl⟩
  · rfl
  · exact takeReset_awake _ s

/-- No boundary puts the CPU to sleep. -/
theorem State.asleep_of_settle {s : State} (h : s.settle.asleep = true) : s.asleep = true := by
  rcases s.settle_cases with ⟨_, e⟩ | ⟨_, e⟩ | ⟨-, e⟩ <;> rw [e] at h
  · exact h
  · cases h
  · cases (takeReset_awake _ s).symm.trans h

/-- A turn in run mode ends in wait or stop by WAIT and STOP alone. -/
theorem cpuStep_to_sleep {s t : State} (hs : s.RunsAlone) (h : cpuStep s = .next t) (ha : t.asleep = true) :
    ∃ i u, fetchInstr s.tagOpcode = .ok i u ∧ (i = .wait ∨ i = .stop) := by
  rcases cpuStep_run hs.mode with ⟨u, hu, e⟩ | ⟨-, e⟩ <;> rw [e] at h
  · cases h
    cases (State.debugStop_awake hu).symm.trans ha
  · obtain ⟨u, hu, h⟩ := onNext_eq_next h
    cases h
    replace ha := State.asleep_of_settle ha
    have hrun : s.tagOpcode.RunsAlone := ⟨hs.mode, hs.noStolen⟩
    rcases State.RunsAlone.keptInside.instruction hrun hu with ⟨cause, w, rfl⟩ | ⟨i, v, w, ⟨u', hfetch⟩, hw, rfl⟩
    · cases (takeReset_awake cause w).symm.trans ha
    · refine ⟨i, u', hfetch, ?_⟩
      exact (lastOperation_asleep hw.mode ha).imp (native_eq_modeChanging (.inl rfl)) (native_eq_modeChanging (.inr (.inl rfl)))

/-- An undisturbed turn ends in active background mode by BGND, or by a reset. -/
theorem cpuStep_to_background {s t : State} (hs : s.tagOpcode.Undisturbed) (h : cpuStep s = .next t) (hb : t.mode = .background) :
    (∃ u, fetchInstr s.tagOpcode = .ok .bgnd u) ∨ ∃ cause u, t = takeReset cause u := by
  have hnone : s.tagOpcode.debugStop = none := State.debugStop_none hs.unwatched.noTag hs.unwatched.noForced hs.noBackground
  rcases cpuStep_run (s := s) hs.runs.mode with ⟨u, hu, -⟩ | ⟨-, e⟩
  · cases hnone.symm.trans hu
  · rw [e] at h
    obtain ⟨u, hu, h⟩ := onNext_eq_next h
    cases h
    rcases State.Undisturbed.keptInside.instruction hs hu with ⟨cause, w, rfl⟩ | ⟨i, v, w, ⟨u', hfetch⟩, hw, rfl⟩
    · exact .inr ⟨cause, w, State.settle_takeReset cause w⟩
    · rw [hw.settle_lastOperation] at hb
      obtain rfl : i = .bgnd := native_eq_modeChanging (.inr (.inr rfl)) (lastOperation_background hw.runs.mode hb)
      exact .inl ⟨u', hfetch⟩

/-- Settles O58: where none of the pending causes holds the turn is undisturbed. -/
theorem runModeStopsOnlyByThese : Obligations.RunModeStopsOnlyByThese := by
  unfold Obligations.RunModeStopsOnlyByThese
  intro s t henv hm hstolen h
  rw [step_empty henv] at h
  refine ⟨cpuStep_to_sleep ⟨hm, hstolen⟩ h, fun hb => ?_⟩
  by_contra hnot
  simp only [not_or, Bool.not_eq_true] at hnot
  obtain ⟨hbgnd, hforced, hbackground, htrace, hbkpt, hreset⟩ := hnot
  have hquiet : s.tagOpcode.Undisturbed := by
    rw [State.tagOpcode_of_disabled hbkpt]
    exact ⟨⟨hm, hstolen⟩, ⟨hbkpt, rfl, hforced, hstolen⟩, hbackground, htrace⟩
  exact (cpuStep_to_background hquiet h hb).elim hbgnd hreset

end Sys2Proof.Machine
end

section
/-! PROOFS. Cycles and access details: O59. -/

namespace Sys2Proof.Machine

/-- What R391 and R80 ask of a line of R392: 1 to 7 letters, at most one read and one write, and the read first. -/
def isDetailLine (detail : List CycleCode) : Bool :=
  decide (1 ≤ detail.length ∧ detail.length ≤ 7 ∧ detail.filter (fun c => c = .r ∨ c = .w) ∈ [[], [.r], [.w], [.r, .w]])

/-- The detail of an instruction is fixed by its constructor; the illegal opcodes and the commands alone have none (70_reset_and_hazards R392). -/
theorem isDetailLine_accessDetail {i : Instr} (hc : isCommand i = false) (hl : i ∉ illegalInstrs) : isDetailLine (accessDetail i) = true := by
  cases i with
  | illegal32 | illegal33 | illegal3D | illegal40 | illegal47 | illegal4D | illegalA3 | illegalA5 | illegalA7 | illegalB3 | illegalB5 => exact absurd (by decide) hl
  | bdcReset | background | readStatus | writeControl | readByte | readByteWs | writeByte | writeByteWs | readBkpt | writeBkpt | go | trace1
  | readBlock | writeBlock | readA | writeA | readCcrPc | writeCcrPc | readSpc | writeSpc | sync => cases hc
  | _ => rfl

/-- The name the decoder gives has the line of the form it expands to. -/
theorem accessDetail_decodeOp (op b1 b2 : Byte) : accessDetail (decodeOp op b1 b2) = accessDetail (decodeNative op b1 b2) := by
  rw [accessDetail, accessDetail, native_decodeOp, native_decodeNative]

/-- Settles O59: a legal opcode decodes to an instruction that has a line. -/
theorem cycleCounts : Obligations.CycleCounts := by
  unfold Obligations.CycleCounts
  intro op b1 b2 hop
  have hlegal : decodeOp op b1 b2 ∉ illegalInstrs := fun h => hop ((decodeOp_mem_illegalInstrs_iff op b1 b2).mp h)
  obtain ⟨hpos, hle, haccesses⟩ := of_decide_eq_true (isDetailLine_accessDetail (isCommand_decodeOp op b1 b2) hlegal)
  exact ⟨hpos, hle, haccesses, accessDetail_decodeOp op b1 b2⟩

end Sys2Proof.Machine
end
